-- ==== Sys2Proof/Word.lean ====
section
/-! DEFINITION. The two word types of the machine and the view of a 16-bit word as two bytes. -/

namespace Sys2Proof

/-- A byte: bits 7 to 0, bit 0 least significant (R11). -/
abbrev Byte := BitVec 8

/-- A 16-bit word: register pairs, SP, addresses in instructions (R11). -/
abbrev Word := BitVec 16

/-- `hi ∥ lo`, the 16-bit value `hi*256 + lo` (R11). -/
def pair (hi lo : Byte) : Word := hi ++ lo

/-- `w[15:8]` (R11). -/
def hiByte (w : Word) : Byte := w.extractLsb' 8 8

/-- `w[7:0]` (R11). -/
def loByte (w : Word) : Byte := w.extractLsb' 0 8

end Sys2Proof
end

