-- ==== Sys2Proof/Config.lean ====
section
/-! DEFINITION. The parameters the spec takes as arguments of a model (00_scope.md section 4), as plain data, and the one
free value: the byte the I/O Port Bridge answers. -/

namespace Sys2Proof

/-- One point of the Auxiliary-Carry function AUX (R7): opcode byte, left operand, right operand, carry or borrow fed in,
and the value AUX has there. -/
structure AuxPoint where
  op  : Byte
  x   : Byte
  y   : Byte
  cin : Bool
  ac  : Bool
  deriving DecidableEq, Repr

/-- The parameters of one machine, fixed while it runs (log entries 1 to 4). AUX has a finite domain, so every AUX is
AUX_DEFAULT changed at finitely many points, and every IMPLEMENTED that R6 allows is its default less some bytes: a
statement about every `Config` is a statement about every value of the parameters. -/
structure Config where
  /-- FLAGS_RESET (R8): only its reserved bits 5, 3, 1 are used, since R8 asks for 0 in the five flags. -/
  flagsReset    : Byte
  /-- The opcode bytes that this machine leaves out of the default IMPLEMENTED (R6). -/
  unimplemented : List Byte
  /-- Where AUX differs from AUX_DEFAULT (R7); the first point that fits counts. -/
  auxExceptions : List AuxPoint
  /-- The table REMAP (R9), address and replacement; the first entry that fits counts. -/
  remap         : List (Word × Word)
  /-- IO_PC_VIEW (R10). -/
  ioPcView      : Fin 3
  deriving DecidableEq, Repr

/-- Every parameter at the default the spec gives it (R6 to R10). -/
def Config.default : Config where
  flagsReset    := 0x02
  unimplemented := []
  auxExceptions := []
  remap         := []
  ioPcView      := 1

/-- FREE VALUE (log entry 5): the byte the Bridge answers to an IN, "for the core ... a free input (any byte)" (R230). It
is applied to the number of I/O events so far, the pc shown to the Bridge and the port. -/
opaque Config.bridgeByte : Nat → Nat → Byte → Byte

end Sys2Proof
end

