-- ==== Sys2Proof/Syntax.lean ====
section
/-! DEFINITION. The instructions, one constructor per row of spec/opcode_table.json (R78), the names of their fields
(R73 to R75), and for each family the instruction that given field values name (R71). -/

namespace Sys2Proof

/-- The seven general registers (R20). -/
inductive Reg where
  | b | c | d | e | h | l | a
  deriving DecidableEq, Repr

/-- What a register field ddd or sss names (R73): a register, or M, the byte at address HL. -/
inductive Loc where
  | reg (r : Reg)
  | m
  deriving DecidableEq, Repr

/-- What a pair field rp names in LXI, INX, DCX, DAD (R74). -/
inductive Pair where
  | bc | de | hl | sp
  deriving DecidableEq, Repr

/-- What a pair field rp names in PUSH and POP (R74). -/
inductive StackPair where
  | bc | de | hl | psw
  deriving DecidableEq, Repr

/-- What the pair field of LDAX and STAX names (R74: "take only 0 and 1"). -/
inductive IndexPair where
  | bc | de
  deriving DecidableEq, Repr

/-- The conditions of a ccc field (R75). -/
inductive Cond where
  | nz | z | nc | c | po | pe | p | m
  deriving DecidableEq, Repr

/-- The eight operations of an alu field (R71). -/
inductive Alu where
  | add | adc | sub | sbb | ana | xra | ora | cmp
  deriving DecidableEq, Repr

/-- An instruction. Immediates, addresses and ports are the operand bytes already put together (R72). -/
inductive Instr where
  -- Data transfer (40_data_transfer.md)
  | lxiB (d16 : Word)
  | staxB
  | mviB (d8 : Byte)
  | ldaxB
  | mviC (d8 : Byte)
  | lxiD (d16 : Word)
  | staxD
  | mviD (d8 : Byte)
  | ldaxD
  | mviE (d8 : Byte)
  | lxiH (d16 : Word)
  | shld (a16 : Word)
  | mviH (d8 : Byte)
  | lhld (a16 : Word)
  | mviL (d8 : Byte)
  | lxiSp (d16 : Word)
  | sta (a16 : Word)
  | mviM (d8 : Byte)
  | lda (a16 : Word)
  | mviA (d8 : Byte)
  | movBB
  | movBC
  | movBD
  | movBE
  | movBH
  | movBL
  | movBM
  | movBA
  | movCB
  | movCC
  | movCD
  | movCE
  | movCH
  | movCL
  | movCM
  | movCA
  | movDB
  | movDC
  | movDD
  | movDE
  | movDH
  | movDL
  | movDM
  | movDA
  | movEB
  | movEC
  | movED
  | movEE
  | movEH
  | movEL
  | movEM
  | movEA
  | movHB
  | movHC
  | movHD
  | movHE
  | movHH
  | movHL
  | movHM
  | movHA
  | movLB
  | movLC
  | movLD
  | movLE
  | movLH
  | movLL
  | movLM
  | movLA
  | movMB
  | movMC
  | movMD
  | movME
  | movMH
  | movML
  | movMA
  | movAB
  | movAC
  | movAD
  | movAE
  | movAH
  | movAL
  | movAM
  | movAA
  | xthl
  | pchl
  | xchg
  | sphl
  -- Increment and decrement (41_increment_decrement.md)
  | inxB
  | inrB
  | dcrB
  | dcxB
  | inrC
  | dcrC
  | inxD
  | inrD
  | dcrD
  | dcxD
  | inrE
  | dcrE
  | inxH
  | inrH
  | dcrH
  | dcxH
  | inrL
  | dcrL
  | inxSp
  | inrM
  | dcrM
  | dcxSp
  | inrA
  | dcrA
  -- Double add (42_double_add.md)
  | dadB
  | dadD
  | dadH
  | dadSp
  -- 8-bit arithmetic (43_arithmetic.md)
  | addB
  | addC
  | addD
  | addE
  | addH
  | addL
  | addM
  | addA
  | adcB
  | adcC
  | adcD
  | adcE
  | adcH
  | adcL
  | adcM
  | adcA
  | subB
  | subC
  | subD
  | subE
  | subH
  | subL
  | subM
  | subA
  | sbbB
  | sbbC
  | sbbD
  | sbbE
  | sbbH
  | sbbL
  | sbbM
  | sbbA
  | cmpB
  | cmpC
  | cmpD
  | cmpE
  | cmpH
  | cmpL
  | cmpM
  | cmpA
  | adi (d8 : Byte)
  | aci (d8 : Byte)
  | sui (d8 : Byte)
  | sbi (d8 : Byte)
  | cpi (d8 : Byte)
  -- Logical, complement, carry, rotates (44_logical.md)
  | rlc
  | rrc
  | ral
  | rar
  | cma
  | stc
  | cmc
  | anaB
  | anaC
  | anaD
  | anaE
  | anaH
  | anaL
  | anaM
  | anaA
  | xraB
  | xraC
  | xraD
  | xraE
  | xraH
  | xraL
  | xraM
  | xraA
  | oraB
  | oraC
  | oraD
  | oraE
  | oraH
  | oraL
  | oraM
  | oraA
  | ani (d8 : Byte)
  | xri (d8 : Byte)
  | ori (d8 : Byte)
  -- Control transfer (45_control_transfer.md)
  | rnz
  | jnz (a16 : Word)
  | jmp (a16 : Word)
  | cnz (a16 : Word)
  | rst0
  | rz
  | ret
  | jz (a16 : Word)
  | cz (a16 : Word)
  | call (a16 : Word)
  | rst1
  | rnc
  | jnc (a16 : Word)
  | cnc (a16 : Word)
  | rst2
  | rc
  | jc (a16 : Word)
  | cc (a16 : Word)
  | rst3
  | rpo
  | jpo (a16 : Word)
  | cpo (a16 : Word)
  | rst4
  | rpe
  | jpe (a16 : Word)
  | cpe (a16 : Word)
  | rst5
  | rp
  | jp (a16 : Word)
  | cp (a16 : Word)
  | rst6
  | rm
  | jm (a16 : Word)
  | cm (a16 : Word)
  | rst7
  -- Stack (46_stack.md)
  | popB
  | pushB
  | popD
  | pushD
  | popH
  | pushH
  | popPsw
  | pushPsw
  -- Input and output (47_io.md)
  | outPort (port : Byte)
  | inPort (port : Byte)
  -- Interrupt control, no-ops, the undefined opcode (48_interrupt_control_and_misc.md)
  | nop
  | nop08
  /-- The 13 rows "(undefined)" of the table (R79), told apart by their byte; also what a byte outside a
  smaller IMPLEMENTED is (R6). -/
  | undefined (op : Byte)
  | di
  | ei
  deriving DecidableEq, Repr

/-- The code of a register field (R73). -/
def Loc.code : Loc → Nat
  | .reg .b => 0
  | .reg .c => 1
  | .reg .d => 2
  | .reg .e => 3
  | .reg .h => 4
  | .reg .l => 5
  | .m => 6
  | .reg .a => 7

/-- The code of a pair field (R74). -/
def Pair.code : Pair → Nat
  | .bc => 0
  | .de => 1
  | .hl => 2
  | .sp => 3

/-- The code of a pair field of PUSH and POP (R74). -/
def StackPair.code : StackPair → Nat
  | .bc => 0
  | .de => 1
  | .hl => 2
  | .psw => 3

/-- The code of the pair field of LDAX and STAX (R74). -/
def IndexPair.code : IndexPair → Nat
  | .bc => 0
  | .de => 1

/-- The code of a condition field (R75). -/
def Cond.code : Cond → Nat
  | .nz => 0
  | .z => 1
  | .nc => 2
  | .c => 3
  | .po => 4
  | .pe => 5
  | .p => 6
  | .m => 7

/-- The code of an alu field (R71). -/
def Alu.code : Alu → Nat
  | .add => 0
  | .adc => 1
  | .sub => 2
  | .sbb => 3
  | .ana => 4
  | .xra => 5
  | .ora => 6
  | .cmp => 7

/-- `MOV ddd,sss` (R101 to R103). Both fields 6 is the undefined byte 0x76. -/
def Instr.movOf : Loc → Loc → Instr
  | .reg .b, .reg .b => .movBB
  | .reg .b, .reg .c => .movBC
  | .reg .b, .reg .d => .movBD
  | .reg .b, .reg .e => .movBE
  | .reg .b, .reg .h => .movBH
  | .reg .b, .reg .l => .movBL
  | .reg .b, .m => .movBM
  | .reg .b, .reg .a => .movBA
  | .reg .c, .reg .b => .movCB
  | .reg .c, .reg .c => .movCC
  | .reg .c, .reg .d => .movCD
  | .reg .c, .reg .e => .movCE
  | .reg .c, .reg .h => .movCH
  | .reg .c, .reg .l => .movCL
  | .reg .c, .m => .movCM
  | .reg .c, .reg .a => .movCA
  | .reg .d, .reg .b => .movDB
  | .reg .d, .reg .c => .movDC
  | .reg .d, .reg .d => .movDD
  | .reg .d, .reg .e => .movDE
  | .reg .d, .reg .h => .movDH
  | .reg .d, .reg .l => .movDL
  | .reg .d, .m => .movDM
  | .reg .d, .reg .a => .movDA
  | .reg .e, .reg .b => .movEB
  | .reg .e, .reg .c => .movEC
  | .reg .e, .reg .d => .movED
  | .reg .e, .reg .e => .movEE
  | .reg .e, .reg .h => .movEH
  | .reg .e, .reg .l => .movEL
  | .reg .e, .m => .movEM
  | .reg .e, .reg .a => .movEA
  | .reg .h, .reg .b => .movHB
  | .reg .h, .reg .c => .movHC
  | .reg .h, .reg .d => .movHD
  | .reg .h, .reg .e => .movHE
  | .reg .h, .reg .h => .movHH
  | .reg .h, .reg .l => .movHL
  | .reg .h, .m => .movHM
  | .reg .h, .reg .a => .movHA
  | .reg .l, .reg .b => .movLB
  | .reg .l, .reg .c => .movLC
  | .reg .l, .reg .d => .movLD
  | .reg .l, .reg .e => .movLE
  | .reg .l, .reg .h => .movLH
  | .reg .l, .reg .l => .movLL
  | .reg .l, .m => .movLM
  | .reg .l, .reg .a => .movLA
  | .m, .reg .b => .movMB
  | .m, .reg .c => .movMC
  | .m, .reg .d => .movMD
  | .m, .reg .e => .movME
  | .m, .reg .h => .movMH
  | .m, .reg .l => .movML
  | .m, .m => .undefined 0x76
  | .m, .reg .a => .movMA
  | .reg .a, .reg .b => .movAB
  | .reg .a, .reg .c => .movAC
  | .reg .a, .reg .d => .movAD
  | .reg .a, .reg .e => .movAE
  | .reg .a, .reg .h => .movAH
  | .reg .a, .reg .l => .movAL
  | .reg .a, .m => .movAM
  | .reg .a, .reg .a => .movAA

/-- `MVI ddd,d8` (R104, R105). -/
def Instr.mviOf : Loc → Byte → Instr
  | .reg .b, d8 => .mviB d8
  | .reg .c, d8 => .mviC d8
  | .reg .d, d8 => .mviD d8
  | .reg .e, d8 => .mviE d8
  | .reg .h, d8 => .mviH d8
  | .reg .l, d8 => .mviL d8
  | .m, d8 => .mviM d8
  | .reg .a, d8 => .mviA d8

/-- `INR ddd` (R122, R123). -/
def Instr.inrOf : Loc → Instr
  | .reg .b => .inrB
  | .reg .c => .inrC
  | .reg .d => .inrD
  | .reg .e => .inrE
  | .reg .h => .inrH
  | .reg .l => .inrL
  | .m => .inrM
  | .reg .a => .inrA

/-- `DCR ddd` (R124, R125). -/
def Instr.dcrOf : Loc → Instr
  | .reg .b => .dcrB
  | .reg .c => .dcrC
  | .reg .d => .dcrD
  | .reg .e => .dcrE
  | .reg .h => .dcrH
  | .reg .l => .dcrL
  | .m => .dcrM
  | .reg .a => .dcrA

/-- `LXI rp,d16` (R106). -/
def Instr.lxiOf : Pair → Word → Instr
  | .bc, d16 => .lxiB d16
  | .de, d16 => .lxiD d16
  | .hl, d16 => .lxiH d16
  | .sp, d16 => .lxiSp d16

/-- `INX rp` (R126). -/
def Instr.inxOf : Pair → Instr
  | .bc => .inxB
  | .de => .inxD
  | .hl => .inxH
  | .sp => .inxSp

/-- `DCX rp` (R127). -/
def Instr.dcxOf : Pair → Instr
  | .bc => .dcxB
  | .de => .dcxD
  | .hl => .dcxH
  | .sp => .dcxSp

/-- `DAD rp` (R130). -/
def Instr.dadOf : Pair → Instr
  | .bc => .dadB
  | .de => .dadD
  | .hl => .dadH
  | .sp => .dadSp

/-- `LDAX rp` (R111). -/
def Instr.ldaxOf : IndexPair → Instr
  | .bc => .ldaxB
  | .de => .ldaxD

/-- `STAX rp` (R112). -/
def Instr.staxOf : IndexPair → Instr
  | .bc => .staxB
  | .de => .staxD

/-- An alu operation on a register or M (R142 to R151, R161 to R166). -/
def Instr.aluOf : Alu → Loc → Instr
  | .add, .reg .b => .addB
  | .add, .reg .c => .addC
  | .add, .reg .d => .addD
  | .add, .reg .e => .addE
  | .add, .reg .h => .addH
  | .add, .reg .l => .addL
  | .add, .m => .addM
  | .add, .reg .a => .addA
  | .adc, .reg .b => .adcB
  | .adc, .reg .c => .adcC
  | .adc, .reg .d => .adcD
  | .adc, .reg .e => .adcE
  | .adc, .reg .h => .adcH
  | .adc, .reg .l => .adcL
  | .adc, .m => .adcM
  | .adc, .reg .a => .adcA
  | .sub, .reg .b => .subB
  | .sub, .reg .c => .subC
  | .sub, .reg .d => .subD
  | .sub, .reg .e => .subE
  | .sub, .reg .h => .subH
  | .sub, .reg .l => .subL
  | .sub, .m => .subM
  | .sub, .reg .a => .subA
  | .sbb, .reg .b => .sbbB
  | .sbb, .reg .c => .sbbC
  | .sbb, .reg .d => .sbbD
  | .sbb, .reg .e => .sbbE
  | .sbb, .reg .h => .sbbH
  | .sbb, .reg .l => .sbbL
  | .sbb, .m => .sbbM
  | .sbb, .reg .a => .sbbA
  | .ana, .reg .b => .anaB
  | .ana, .reg .c => .anaC
  | .ana, .reg .d => .anaD
  | .ana, .reg .e => .anaE
  | .ana, .reg .h => .anaH
  | .ana, .reg .l => .anaL
  | .ana, .m => .anaM
  | .ana, .reg .a => .anaA
  | .xra, .reg .b => .xraB
  | .xra, .reg .c => .xraC
  | .xra, .reg .d => .xraD
  | .xra, .reg .e => .xraE
  | .xra, .reg .h => .xraH
  | .xra, .reg .l => .xraL
  | .xra, .m => .xraM
  | .xra, .reg .a => .xraA
  | .ora, .reg .b => .oraB
  | .ora, .reg .c => .oraC
  | .ora, .reg .d => .oraD
  | .ora, .reg .e => .oraE
  | .ora, .reg .h => .oraH
  | .ora, .reg .l => .oraL
  | .ora, .m => .oraM
  | .ora, .reg .a => .oraA
  | .cmp, .reg .b => .cmpB
  | .cmp, .reg .c => .cmpC
  | .cmp, .reg .d => .cmpD
  | .cmp, .reg .e => .cmpE
  | .cmp, .reg .h => .cmpH
  | .cmp, .reg .l => .cmpL
  | .cmp, .m => .cmpM
  | .cmp, .reg .a => .cmpA

/-- An alu operation on an immediate (R152 to R156, R167 to R169). -/
def Instr.aluImmOf : Alu → Byte → Instr
  | .add, d8 => .adi d8
  | .adc, d8 => .aci d8
  | .sub, d8 => .sui d8
  | .sbb, d8 => .sbi d8
  | .ana, d8 => .ani d8
  | .xra, d8 => .xri d8
  | .ora, d8 => .ori d8
  | .cmp, d8 => .cpi d8

/-- `Jccc a16` (R185 to R192). -/
def Instr.jumpOf : Cond → Word → Instr
  | .nz, a16 => .jnz a16
  | .z, a16 => .jz a16
  | .nc, a16 => .jnc a16
  | .c, a16 => .jc a16
  | .po, a16 => .jpo a16
  | .pe, a16 => .jpe a16
  | .p, a16 => .jp a16
  | .m, a16 => .jm a16

/-- `Cccc a16` (R194 to R201). -/
def Instr.callOf : Cond → Word → Instr
  | .nz, a16 => .cnz a16
  | .z, a16 => .cz a16
  | .nc, a16 => .cnc a16
  | .c, a16 => .cc a16
  | .po, a16 => .cpo a16
  | .pe, a16 => .cpe a16
  | .p, a16 => .cp a16
  | .m, a16 => .cm a16

/-- `Rccc` (R203 to R210). -/
def Instr.retOf : Cond → Instr
  | .nz => .rnz
  | .z => .rz
  | .nc => .rnc
  | .c => .rc
  | .po => .rpo
  | .pe => .rpe
  | .p => .rp
  | .m => .rm

/-- `RST n` (R211). -/
def Instr.rstOf : Fin 8 → Instr
  | 0 => .rst0
  | 1 => .rst1
  | 2 => .rst2
  | 3 => .rst3
  | 4 => .rst4
  | 5 => .rst5
  | 6 => .rst6
  | 7 => .rst7

/-- `PUSH rp` (R221, R222). -/
def Instr.pushOf : StackPair → Instr
  | .bc => .pushB
  | .de => .pushD
  | .hl => .pushH
  | .psw => .pushPsw

/-- `POP rp` (R223, R224). -/
def Instr.popOf : StackPair → Instr
  | .bc => .popB
  | .de => .popD
  | .hl => .popH
  | .psw => .popPsw

end Sys2Proof
end

