-- ==== Sys2Proof/WellFormed.lean ====
section
/-! DEFINITION. The bytes that are undefined as opcodes (R79) and the well-formed instructions: the ones some bytes encode
under the default IMPLEMENTED. -/

namespace Sys2Proof

/-- The 13 opcode bytes without a table entry (R79). -/
def undefinedBytes : List Byte :=
  [0x10, 0x18, 0x20, 0x27, 0x28, 0x30, 0x38, 0x76, 0xCB, 0xD9, 0xDD, 0xED, 0xFD]

/-- The immediates, addresses and ports of an instruction have exactly their width by type, and a register, pair or
condition is part of a constructor's name, so the one thing that can be ill-formed is `undefined` with a byte that names an
instruction (R77, R79). -/
def Instr.wf : Instr → Bool
  | .undefined op => undefinedBytes.contains op
  | _ => true

end Sys2Proof
end

