-- ==== Sys2Proof/Decode.lean ====
section
/-! DEFINITION. The opcode map (R78), operand counts (R70), the total decoder, IMPLEMENTED (R6), and the encoder. -/

namespace Sys2Proof

/-- What the dispatcher's table holds for an opcode byte (R70, R78): an instruction of format F1, one that needs the
operand byte b1 (F2), one that needs the 16-bit operand made of b1 and b2 (F3), or no entry. -/
inductive Shape where
  | f1 (i : Instr)
  | f2 (k : Byte → Instr)
  | f3 (k : Word → Instr)
  | none

/-- The operand count of a table entry (R70, R86). -/
def Shape.operands : Shape → Nat
  | .f1 _ => 0
  | .f2 _ => 1
  | .f3 _ => 2
  | .none => 0

/-- The map of R78, a row for each high hex digit, a column for each low hex digit. -/
def opcodeMap : List (List Shape) :=
  [[.f1 .nop, .f3 .lxiB, .f1 .staxB, .f1 .inxB, .f1 .inrB, .f1 .dcrB, .f2 .mviB, .f1 .rlc,
    .f1 .nop08, .f1 .dadB, .f1 .ldaxB, .f1 .dcxB, .f1 .inrC, .f1 .dcrC, .f2 .mviC, .f1 .rrc],
   [.none, .f3 .lxiD, .f1 .staxD, .f1 .inxD, .f1 .inrD, .f1 .dcrD, .f2 .mviD, .f1 .ral,
    .none, .f1 .dadD, .f1 .ldaxD, .f1 .dcxD, .f1 .inrE, .f1 .dcrE, .f2 .mviE, .f1 .rar],
   [.none, .f3 .lxiH, .f3 .shld, .f1 .inxH, .f1 .inrH, .f1 .dcrH, .f2 .mviH, .none,
    .none, .f1 .dadH, .f3 .lhld, .f1 .dcxH, .f1 .inrL, .f1 .dcrL, .f2 .mviL, .f1 .cma],
   [.none, .f3 .lxiSp, .f3 .sta, .f1 .inxSp, .f1 .inrM, .f1 .dcrM, .f2 .mviM, .f1 .stc,
    .none, .f1 .dadSp, .f3 .lda, .f1 .dcxSp, .f1 .inrA, .f1 .dcrA, .f2 .mviA, .f1 .cmc],
   [.f1 .movBB, .f1 .movBC, .f1 .movBD, .f1 .movBE, .f1 .movBH, .f1 .movBL, .f1 .movBM, .f1 .movBA,
    .f1 .movCB, .f1 .movCC, .f1 .movCD, .f1 .movCE, .f1 .movCH, .f1 .movCL, .f1 .movCM, .f1 .movCA],
   [.f1 .movDB, .f1 .movDC, .f1 .movDD, .f1 .movDE, .f1 .movDH, .f1 .movDL, .f1 .movDM, .f1 .movDA,
    .f1 .movEB, .f1 .movEC, .f1 .movED, .f1 .movEE, .f1 .movEH, .f1 .movEL, .f1 .movEM, .f1 .movEA],
   [.f1 .movHB, .f1 .movHC, .f1 .movHD, .f1 .movHE, .f1 .movHH, .f1 .movHL, .f1 .movHM, .f1 .movHA,
    .f1 .movLB, .f1 .movLC, .f1 .movLD, .f1 .movLE, .f1 .movLH, .f1 .movLL, .f1 .movLM, .f1 .movLA],
   [.f1 .movMB, .f1 .movMC, .f1 .movMD, .f1 .movME, .f1 .movMH, .f1 .movML, .none, .f1 .movMA,
    .f1 .movAB, .f1 .movAC, .f1 .movAD, .f1 .movAE, .f1 .movAH, .f1 .movAL, .f1 .movAM, .f1 .movAA],
   [.f1 .addB, .f1 .addC, .f1 .addD, .f1 .addE, .f1 .addH, .f1 .addL, .f1 .addM, .f1 .addA,
    .f1 .adcB, .f1 .adcC, .f1 .adcD, .f1 .adcE, .f1 .adcH, .f1 .adcL, .f1 .adcM, .f1 .adcA],
   [.f1 .subB, .f1 .subC, .f1 .subD, .f1 .subE, .f1 .subH, .f1 .subL, .f1 .subM, .f1 .subA,
    .f1 .sbbB, .f1 .sbbC, .f1 .sbbD, .f1 .sbbE, .f1 .sbbH, .f1 .sbbL, .f1 .sbbM, .f1 .sbbA],
   [.f1 .anaB, .f1 .anaC, .f1 .anaD, .f1 .anaE, .f1 .anaH, .f1 .anaL, .f1 .anaM, .f1 .anaA,
    .f1 .xraB, .f1 .xraC, .f1 .xraD, .f1 .xraE, .f1 .xraH, .f1 .xraL, .f1 .xraM, .f1 .xraA],
   [.f1 .oraB, .f1 .oraC, .f1 .oraD, .f1 .oraE, .f1 .oraH, .f1 .oraL, .f1 .oraM, .f1 .oraA,
    .f1 .cmpB, .f1 .cmpC, .f1 .cmpD, .f1 .cmpE, .f1 .cmpH, .f1 .cmpL, .f1 .cmpM, .f1 .cmpA],
   [.f1 .rnz, .f1 .popB, .f3 .jnz, .f3 .jmp, .f3 .cnz, .f1 .pushB, .f2 .adi, .f1 .rst0,
    .f1 .rz, .f1 .ret, .f3 .jz, .none, .f3 .cz, .f3 .call, .f2 .aci, .f1 .rst1],
   [.f1 .rnc, .f1 .popD, .f3 .jnc, .f2 .outPort, .f3 .cnc, .f1 .pushD, .f2 .sui, .f1 .rst2,
    .f1 .rc, .none, .f3 .jc, .f2 .inPort, .f3 .cc, .none, .f2 .sbi, .f1 .rst3],
   [.f1 .rpo, .f1 .popH, .f3 .jpo, .f1 .xthl, .f3 .cpo, .f1 .pushH, .f2 .ani, .f1 .rst4,
    .f1 .rpe, .f1 .pchl, .f3 .jpe, .f1 .xchg, .f3 .cpe, .none, .f2 .xri, .f1 .rst5],
   [.f1 .rp, .f1 .popPsw, .f3 .jp, .f1 .di, .f3 .cp, .f1 .pushPsw, .f2 .ori, .f1 .rst6,
    .f1 .rm, .f1 .sphl, .f3 .jm, .f1 .ei, .f3 .cm, .none, .f2 .cpi, .f1 .rst7]]

/-- The table entry of an opcode byte (R77: a total function of the byte alone). -/
def shapeOf (op : Byte) : Shape :=
  (opcodeMap.getD (op.toNat / 16) []).getD (op.toNat % 16) .none

/-- The operand count of an opcode byte (R70). -/
def operandCount (op : Byte) : Nat := (shapeOf op).operands

/-- Does the default table have an entry for this byte (R6, R78, R79)? -/
def Shape.isDefined : Shape → Bool
  | .none => false
  | _ => true

/-- IMPLEMENTED (R6): the default set less the bytes this machine leaves out. -/
def implemented (cfg : Config) (op : Byte) : Bool :=
  (shapeOf op).isDefined && !cfg.unimplemented.contains op

/-- Why bytes are no whole instruction. An undefined opcode byte is no such reason: it decodes to `undefined` (R79). -/
inductive DecodeError where
  /-- There is no byte to read. -/
  | noOpcode
  /-- The operand bytes of this opcode are not all there. -/
  | missingOperand (op : Byte)
  deriving DecidableEq, Repr

/-- The instruction at the front of some bytes and the bytes after it (R72, R81), under the default IMPLEMENTED. -/
def decode : List Byte → Except DecodeError (Instr × List Byte)
  | [] => .error .noOpcode
  | op :: rest =>
    match shapeOf op, rest with
    | .f1 i, rest => .ok (i, rest)
    | .f2 k, b1 :: rest => .ok (k b1, rest)
    | .f3 k, b1 :: b2 :: rest => .ok (k (pair b2 b1), rest)
    | .none, rest => .ok (.undefined op, rest)
    | _, _ => .error (.missingOperand op)

/-- The three bytes whose bits are `w`, numbered as spec/opcode_table.json numbers them: the first byte is bits 7..0. Bits
from `nbits` up are 0. -/
def tableBytes (nbits w : Nat) : List Byte :=
  let v := w % 2 ^ nbits
  [BitVec.ofNat 8 v, BitVec.ofNat 8 (v / 256), BitVec.ofNat 8 (v / 65536)]

/-- The instruction the decoder reads from the bytes of a table word. -/
def decodeTableWord (nbits w : Nat) : Option Instr :=
  match decode (tableBytes nbits w) with
  | .ok (i, _) => some i
  | .error _ => none

/-- An instruction's two-byte operand in memory order, low byte first (R50, R51). -/
def lowHigh (w : Word) : List Byte := [loByte w, hiByte w]

/-- The bytes of an instruction, from the Encoding line of its rule. -/
def encode : Instr → List Byte
  -- Data transfer (40_data_transfer.md)
  | .lxiB d16 => 0x01 :: lowHigh d16
  | .staxB => [0x02]
  | .mviB d8 => [0x06, d8]
  | .ldaxB => [0x0A]
  | .mviC d8 => [0x0E, d8]
  | .lxiD d16 => 0x11 :: lowHigh d16
  | .staxD => [0x12]
  | .mviD d8 => [0x16, d8]
  | .ldaxD => [0x1A]
  | .mviE d8 => [0x1E, d8]
  | .lxiH d16 => 0x21 :: lowHigh d16
  | .shld a16 => 0x22 :: lowHigh a16
  | .mviH d8 => [0x26, d8]
  | .lhld a16 => 0x2A :: lowHigh a16
  | .mviL d8 => [0x2E, d8]
  | .lxiSp d16 => 0x31 :: lowHigh d16
  | .sta a16 => 0x32 :: lowHigh a16
  | .mviM d8 => [0x36, d8]
  | .lda a16 => 0x3A :: lowHigh a16
  | .mviA d8 => [0x3E, d8]
  | .movBB => [0x40]
  | .movBC => [0x41]
  | .movBD => [0x42]
  | .movBE => [0x43]
  | .movBH => [0x44]
  | .movBL => [0x45]
  | .movBM => [0x46]
  | .movBA => [0x47]
  | .movCB => [0x48]
  | .movCC => [0x49]
  | .movCD => [0x4A]
  | .movCE => [0x4B]
  | .movCH => [0x4C]
  | .movCL => [0x4D]
  | .movCM => [0x4E]
  | .movCA => [0x4F]
  | .movDB => [0x50]
  | .movDC => [0x51]
  | .movDD => [0x52]
  | .movDE => [0x53]
  | .movDH => [0x54]
  | .movDL => [0x55]
  | .movDM => [0x56]
  | .movDA => [0x57]
  | .movEB => [0x58]
  | .movEC => [0x59]
  | .movED => [0x5A]
  | .movEE => [0x5B]
  | .movEH => [0x5C]
  | .movEL => [0x5D]
  | .movEM => [0x5E]
  | .movEA => [0x5F]
  | .movHB => [0x60]
  | .movHC => [0x61]
  | .movHD => [0x62]
  | .movHE => [0x63]
  | .movHH => [0x64]
  | .movHL => [0x65]
  | .movHM => [0x66]
  | .movHA => [0x67]
  | .movLB => [0x68]
  | .movLC => [0x69]
  | .movLD => [0x6A]
  | .movLE => [0x6B]
  | .movLH => [0x6C]
  | .movLL => [0x6D]
  | .movLM => [0x6E]
  | .movLA => [0x6F]
  | .movMB => [0x70]
  | .movMC => [0x71]
  | .movMD => [0x72]
  | .movME => [0x73]
  | .movMH => [0x74]
  | .movML => [0x75]
  | .movMA => [0x77]
  | .movAB => [0x78]
  | .movAC => [0x79]
  | .movAD => [0x7A]
  | .movAE => [0x7B]
  | .movAH => [0x7C]
  | .movAL => [0x7D]
  | .movAM => [0x7E]
  | .movAA => [0x7F]
  | .xthl => [0xE3]
  | .pchl => [0xE9]
  | .xchg => [0xEB]
  | .sphl => [0xF9]
  -- Increment and decrement (41_increment_decrement.md)
  | .inxB => [0x03]
  | .inrB => [0x04]
  | .dcrB => [0x05]
  | .dcxB => [0x0B]
  | .inrC => [0x0C]
  | .dcrC => [0x0D]
  | .inxD => [0x13]
  | .inrD => [0x14]
  | .dcrD => [0x15]
  | .dcxD => [0x1B]
  | .inrE => [0x1C]
  | .dcrE => [0x1D]
  | .inxH => [0x23]
  | .inrH => [0x24]
  | .dcrH => [0x25]
  | .dcxH => [0x2B]
  | .inrL => [0x2C]
  | .dcrL => [0x2D]
  | .inxSp => [0x33]
  | .inrM => [0x34]
  | .dcrM => [0x35]
  | .dcxSp => [0x3B]
  | .inrA => [0x3C]
  | .dcrA => [0x3D]
  -- Double add (42_double_add.md)
  | .dadB => [0x09]
  | .dadD => [0x19]
  | .dadH => [0x29]
  | .dadSp => [0x39]
  -- 8-bit arithmetic (43_arithmetic.md)
  | .addB => [0x80]
  | .addC => [0x81]
  | .addD => [0x82]
  | .addE => [0x83]
  | .addH => [0x84]
  | .addL => [0x85]
  | .addM => [0x86]
  | .addA => [0x87]
  | .adcB => [0x88]
  | .adcC => [0x89]
  | .adcD => [0x8A]
  | .adcE => [0x8B]
  | .adcH => [0x8C]
  | .adcL => [0x8D]
  | .adcM => [0x8E]
  | .adcA => [0x8F]
  | .subB => [0x90]
  | .subC => [0x91]
  | .subD => [0x92]
  | .subE => [0x93]
  | .subH => [0x94]
  | .subL => [0x95]
  | .subM => [0x96]
  | .subA => [0x97]
  | .sbbB => [0x98]
  | .sbbC => [0x99]
  | .sbbD => [0x9A]
  | .sbbE => [0x9B]
  | .sbbH => [0x9C]
  | .sbbL => [0x9D]
  | .sbbM => [0x9E]
  | .sbbA => [0x9F]
  | .cmpB => [0xB8]
  | .cmpC => [0xB9]
  | .cmpD => [0xBA]
  | .cmpE => [0xBB]
  | .cmpH => [0xBC]
  | .cmpL => [0xBD]
  | .cmpM => [0xBE]
  | .cmpA => [0xBF]
  | .adi d8 => [0xC6, d8]
  | .aci d8 => [0xCE, d8]
  | .sui d8 => [0xD6, d8]
  | .sbi d8 => [0xDE, d8]
  | .cpi d8 => [0xFE, d8]
  -- Logical, complement, carry, rotates (44_logical.md)
  | .rlc => [0x07]
  | .rrc => [0x0F]
  | .ral => [0x17]
  | .rar => [0x1F]
  | .cma => [0x2F]
  | .stc => [0x37]
  | .cmc => [0x3F]
  | .anaB => [0xA0]
  | .anaC => [0xA1]
  | .anaD => [0xA2]
  | .anaE => [0xA3]
  | .anaH => [0xA4]
  | .anaL => [0xA5]
  | .anaM => [0xA6]
  | .anaA => [0xA7]
  | .xraB => [0xA8]
  | .xraC => [0xA9]
  | .xraD => [0xAA]
  | .xraE => [0xAB]
  | .xraH => [0xAC]
  | .xraL => [0xAD]
  | .xraM => [0xAE]
  | .xraA => [0xAF]
  | .oraB => [0xB0]
  | .oraC => [0xB1]
  | .oraD => [0xB2]
  | .oraE => [0xB3]
  | .oraH => [0xB4]
  | .oraL => [0xB5]
  | .oraM => [0xB6]
  | .oraA => [0xB7]
  | .ani d8 => [0xE6, d8]
  | .xri d8 => [0xEE, d8]
  | .ori d8 => [0xF6, d8]
  -- Control transfer (45_control_transfer.md)
  | .rnz => [0xC0]
  | .jnz a16 => 0xC2 :: lowHigh a16
  | .jmp a16 => 0xC3 :: lowHigh a16
  | .cnz a16 => 0xC4 :: lowHigh a16
  | .rst0 => [0xC7]
  | .rz => [0xC8]
  | .ret => [0xC9]
  | .jz a16 => 0xCA :: lowHigh a16
  | .cz a16 => 0xCC :: lowHigh a16
  | .call a16 => 0xCD :: lowHigh a16
  | .rst1 => [0xCF]
  | .rnc => [0xD0]
  | .jnc a16 => 0xD2 :: lowHigh a16
  | .cnc a16 => 0xD4 :: lowHigh a16
  | .rst2 => [0xD7]
  | .rc => [0xD8]
  | .jc a16 => 0xDA :: lowHigh a16
  | .cc a16 => 0xDC :: lowHigh a16
  | .rst3 => [0xDF]
  | .rpo => [0xE0]
  | .jpo a16 => 0xE2 :: lowHigh a16
  | .cpo a16 => 0xE4 :: lowHigh a16
  | .rst4 => [0xE7]
  | .rpe => [0xE8]
  | .jpe a16 => 0xEA :: lowHigh a16
  | .cpe a16 => 0xEC :: lowHigh a16
  | .rst5 => [0xEF]
  | .rp => [0xF0]
  | .jp a16 => 0xF2 :: lowHigh a16
  | .cp a16 => 0xF4 :: lowHigh a16
  | .rst6 => [0xF7]
  | .rm => [0xF8]
  | .jm a16 => 0xFA :: lowHigh a16
  | .cm a16 => 0xFC :: lowHigh a16
  | .rst7 => [0xFF]
  -- Stack (46_stack.md)
  | .popB => [0xC1]
  | .pushB => [0xC5]
  | .popD => [0xD1]
  | .pushD => [0xD5]
  | .popH => [0xE1]
  | .pushH => [0xE5]
  | .popPsw => [0xF1]
  | .pushPsw => [0xF5]
  -- Input and output (47_io.md)
  | .outPort port => [0xD3, port]
  | .inPort port => [0xDB, port]
  -- Interrupt control, no-ops, the undefined opcode (48_interrupt_control_and_misc.md)
  | .nop => [0x00]
  | .nop08 => [0x08]
  | .undefined op => [op]
  | .di => [0xF3]
  | .ei => [0xFB]

/-- The opcode byte of an instruction. -/
def opcodeByte (i : Instr) : Byte := (encode i).headD 0

/-- LEN, the length of an instruction in bytes (R86). -/
def Instr.len (i : Instr) : Nat := (encode i).length

end Sys2Proof
end

