-- ==== Sys2Proof/Machine/State.lean ====
section
/-! DEFINITION. The state of the machine as plain data, what can halt it, and the state after construction. -/

namespace Sys2Proof.Machine

/-- What a Step can raise (R14). It never reaches the host of this model: the shared operation `takeHalt` turns it into the
halt that R265 describes (a next state with RUN = Halted), so neither `exec` nor `step` ever answers `.fault`. SAFE: a halt
loses no behaviour of the hardware (log entry 8). -/
inductive Fault where
  /-- Raised in place of an instruction whose byte has no table entry: meaning of `undefined` (R244, R261). Safe. -/
  | undefinedOpcode (addr : Nat) (op : Byte)
  /-- Raised by the opcode fetch past the end of memory (R262), by `memRead` and by the range checks of the push, the pop,
  LHLD, SHLD, XTHL, CALL and RST (R57, R263). Safe. -/
  | outOfBounds (addr : Int)
  deriving DecidableEq, Repr

/-- Why there is no meaning for an instruction. -/
inductive Refusal where
  /-- An instruction without a meaning, rejected by name in `exec`'s arm. No arm of this model answers it. Safe. -/
  | notModelled (mnemonic : String)
  deriving DecidableEq, Repr

/-- The reasons of `Halted(reason)` (R31, R260). -/
inductive HaltReason where
  | undefinedOpcode (addr : Nat) (op : Byte)
  | outOfBounds (addr : Int)
  | romTooLarge (size : Nat)
  | requested
  deriving DecidableEq, Repr

/-- RUN, the RunState (R31). -/
inductive RunState where
  | idle
  | running
  | halted (reason : HaltReason)
  | singleStepWait
  | breakpointHit (addr : Word)
  deriving DecidableEq, Repr

/-- What happens at the boundary to the I/O Port Bridge (R230, R285). -/
inductive IoEvent where
  /-- `IoRead(pcv, port)` and the byte it answered. -/
  | read (pcv : Nat) (port : Byte) (answer : Byte)
  /-- `IoWrite(port, value)`. -/
  | write (port : Byte) (value : Byte)
  deriving DecidableEq, Repr

/-- What the host can do to the machine (R290). -/
inductive HostEvent where
  | start
  | stop
  | step
  | reset
  /-- The addresses are integers, since a request out of range is refused (R279). -/
  | setBreakpoints (addrs : List Int)
  | loadRom (bytes : List Byte)
  /-- USR_PATCH_BYTES are not in the source (R306), so the event carries them. -/
  | applyUsrPatch (bytes : Vector Byte 8)
  /-- The host moves the level SSTEP (R33). -/
  | setSstep (level : Bool)
  /-- The host sets the sense switches SW (R286). -/
  | setSwitches (value : Word)
  deriving DecidableEq, Repr

/-- What the Bridge does next about an IN (R230): it answers with a byte, lets one more step pass, or never answers. -/
inductive BridgeReply where
  | byte (v : Byte)
  | later
  | never
  deriving DecidableEq, Repr

/-- Memory: address and byte, addresses strictly rising, no entry for a byte that holds 0 (log entry 14). -/
abbrev Memory := List Host.Cell

/-- The state. `a` to `grant` and `mem` are CORE's own (10_state.md); the rest holds CORE's inputs and outputs and the
machine's parameters as plain data (log entries 1 to 10). -/
structure State where
  /-- The accumulator (R20). -/
  a : Byte
  b : Byte
  c : Byte
  d : Byte
  e : Byte
  h : Byte
  l : Byte
  /-- Bits 7 S, 6 Z, 4 AC, 2 P, 0 CY; 5, 3, 1 reserved (R26). -/
  flags : Byte
  sp : Word
  /-- The program counter, 0..65536, never reduced (R24). -/
  pc : Nat
  /-- Written by EI and DI, read by nothing (R30). -/
  inte : Bool
  run : RunState
  /-- The breakpoint set, in rising order (R32, log entry 15). -/
  bp : List Word
  /-- The Controller's grant of one instruction after `step` (R37, R277). -/
  grant : Bool
  mem : Memory
  /-- The level input SSTEP (R33). -/
  sstep : Bool
  /-- The sense switches SW (R286). -/
  sw : Word
  /-- The Bridge's answers and waits to come, one answer for each IN (R230, log entry 5). -/
  replies : List BridgeReply
  /-- The I/O events so far, oldest first. -/
  io : List IoEvent
  /-- The host's events to come, each with the instruction boundaries that pass before it arrives (R280). -/
  inbox : List (Nat × HostEvent)
  /-- The parameters, fixed while the machine runs. -/
  cfg : Config
  deriving DecidableEq, Repr

/-- The machine after construction (R38, R300), with every parameter at its default and nothing to come from outside. -/
def State.reset : State where
  a := 0x00
  b := 0x00
  c := 0x00
  d := 0x00
  e := 0x00
  h := 0x00
  l := 0x00
  flags := Config.default.flagsReset
  sp := 0xFFFF
  pc := 0
  inte := false
  run := .idle
  bp := []
  grant := false
  mem := []
  sstep := false
  sw := 0x0000
  replies := []
  io := []
  inbox := []
  cfg := Config.default

end Sys2Proof.Machine
end

