-- ==== Sys2Proof/Machine/Ops.lean ====
section
/-! DEFINITION. The named operations over memory, pc and stack, and the one operation that takes a halt. -/

namespace Sys2Proof.Machine

/-- MEMSIZE (R5). -/
def memSize : Nat := 65536

/-- What an address that memory does not list reads as: "zero-initialized" (R34, R38). -/
def Memory.blank : Byte := 0x00

/-- One byte of memory (R54). -/
def Memory.read : Memory → Nat → Byte
  | [], _ => Memory.blank
  | (k, v) :: rest, addr => if k = addr then v else Memory.read rest addr

/-- List a byte at its place in the rising order, in place of the entry for the same address. -/
def Memory.insert : Memory → Nat → Byte → Memory
  | [], addr, v => [(addr, v)]
  | (k, w) :: rest, addr, v =>
    if addr < k then (addr, v) :: (k, w) :: rest
    else if addr = k then (addr, v) :: rest
    else (k, w) :: Memory.insert rest addr v

/-- Store one byte. Storing what an unlisted address reads as takes the entry away. -/
def Memory.write (m : Memory) (addr : Nat) (v : Byte) : Memory :=
  if v = Memory.blank then m.filter (fun cell => cell.1 != addr) else m.insert addr v

/-- Store bytes from an address upward (R302). -/
def Memory.load : Memory → Nat → List Byte → Memory
  | m, _, [] => m
  | m, addr, v :: rest => Memory.load (m.write addr v) (addr + 1) rest

/-- The canonical form: addresses strictly rising and inside memory, no entry that reads as an unlisted address. -/
abbrev Memory.wf (m : Memory) : Prop :=
  m.Pairwise (fun x y => x.1 < y.1) ∧ ∀ cell ∈ m, cell.1 < memSize ∧ cell.2 ≠ Memory.blank

/-- `MemRead(addr, 1)` at a computed address, which no read of this machine makes negative: out of range it raises
OutOfBounds (R13, R57). -/
def memRead (s : State) (addr : Nat) : Except Fault Byte :=
  if addr < memSize then .ok (s.mem.read addr) else .error (.outOfBounds addr)

/-- The halt reason a Step that raised records (R260 to R263). -/
def Fault.reason : Fault → HaltReason
  | .undefinedOpcode addr op => .undefinedOpcode addr op
  | .outOfBounds addr => .outOfBounds addr

/-- Entering Halted: only RUN changes (R14, R265, R269: nothing is saved and there is no vector). -/
def State.halt (s : State) (reason : HaltReason) : State := { s with run := .halted reason }

/-- Abandon the instruction that began in `s` (R14, R265). -/
def raise (s : State) (f : Fault) : Host.Outcome State Fault Refusal := .next (s.halt f.reason)

/-- How an instruction that can raise ends: with its own effect, or halted with nothing of it done (R265). There is no
return from a halt (R269); the host's `reset` leaves it (R278). -/
def takeHalt (s : State) : Except Fault State → Host.Outcome State Fault Refusal
  | .ok t => .next t
  | .error f => raise s f

/-- `pc <- pc0 + LEN`, not reduced (R25, R86). -/
def State.advance (s : State) (len : Nat) : State := { s with pc := s.pc + len }

/-- `pc <- target`, a 16-bit target (R24). -/
def State.jump (s : State) (target : Word) : State := { s with pc := target.toNat }

/-- The end of an instruction that does not write pc (R15, R85). -/
def done (len : Nat) (t : State) : Host.Outcome State Fault Refusal := .next (t.advance len)

/-- `PushWord(w)` (R182): both range checks, then high byte at SP-1, low byte at SP-2. -/
def pushWord (s : State) (w : Word) : Except Fault State :=
  let sp : Int := s.sp.toNat
  if sp - 1 < 0 then .error (.outOfBounds (sp - 1))
  else if sp - 2 < 0 then .error (.outOfBounds (sp - 2))
  else .ok { s with
    mem := (s.mem.write (s.sp.toNat - 1) (hiByte w)).write (s.sp.toNat - 2) (loByte w)
    sp := s.sp - 2 }

/-- `PopWord()` (R182): the range check, then low byte at SP, high byte at SP+1, SP + 2 mod 65536. -/
def popWord (s : State) : Except Fault (Word × State) :=
  if s.sp.toNat + 1 ≥ memSize then .error (.outOfBounds (s.sp.toNat + 1))
  else .ok (pair (s.mem.read (s.sp.toNat + 1)) (s.mem.read s.sp.toNat), { s with sp := s.sp + 2 })

end Sys2Proof.Machine
end

