-- ==== Sys2Proof/Machine/Flags.lean ====
section
/-! DEFINITION. The Flags byte: its five flags, the helper SZP, the Auxiliary-Carry function AUX, and the flag updates of
the instruction families. -/

namespace Sys2Proof.Machine

/-- S, bit 7 (R26). -/
def State.sf (s : State) : Bool := s.flags.getLsbD 7
/-- Z, bit 6 (R26). -/
def State.zf (s : State) : Bool := s.flags.getLsbD 6
/-- AC, bit 4 (R26). -/
def State.ac (s : State) : Bool := s.flags.getLsbD 4
/-- P, bit 2 (R26). -/
def State.pf (s : State) : Bool := s.flags.getLsbD 2
/-- CY, bit 0 (R26). -/
def State.cy (s : State) : Bool := s.flags.getLsbD 0

/-- The five flags together (R26). -/
def flagMask : Byte := 0xD5
/-- The three reserved bits together (R26). -/
def reservedMask : Byte := 0x2A

/-- Writing a flag writes its bit and no other (R12). -/
def Flags.setBit (f mask : Byte) (v : Bool) : Byte := if v then f ||| mask else f &&& ~~~mask

def Flags.setS (f : Byte) (v : Bool) : Byte := Flags.setBit f 0x80 v
def Flags.setZ (f : Byte) (v : Bool) : Byte := Flags.setBit f 0x40 v
def Flags.setAC (f : Byte) (v : Bool) : Byte := Flags.setBit f 0x10 v
def Flags.setP (f : Byte) (v : Bool) : Byte := Flags.setBit f 0x04 v
def Flags.setCY (f : Byte) (v : Bool) : Byte := Flags.setBit f 0x01 v

/-- The number of 1 bits of a byte (R11). -/
def popcount (v : Byte) : Nat :=
  (v.getLsbD 0).toNat + (v.getLsbD 1).toNat + (v.getLsbD 2).toNat + (v.getLsbD 3).toNat +
  (v.getLsbD 4).toNat + (v.getLsbD 5).toNat + (v.getLsbD 6).toNat + (v.getLsbD 7).toNat

/-- `SZP(v)` (R28). -/
def Flags.szp (f v : Byte) : Byte :=
  Flags.setP (Flags.setZ (Flags.setS f (v.getLsbD 7)) (v == 0)) (popcount v % 2 == 0)

/-- S, Z, P of an 8-bit result, and CY and AC as the instruction computes them (R140, R160). -/
def Flags.result (f r : Byte) (cy ac : Bool) : Byte := Flags.setAC (Flags.setCY (Flags.szp f r) cy) ac

/-- The low nibble of a byte. -/
def lowNibble (v : Byte) : Nat := v.toNat % 16

/-- Is this the opcode of SUB, SBB, CMP, SUI, SBI or CPI (R78)? -/
def isSubtractive (op : Byte) : Bool :=
  op &&& 0xF0 == 0x90 || op &&& 0xF8 == 0xB8 || op == 0xD6 || op == 0xDE || op == 0xFE

/-- AUX_DEFAULT (R121, R141). -/
def auxDefault (op x y : Byte) (cin : Bool) : Bool :=
  if op &&& 0xC7 == 0x04 then lowNibble (x + 1) < lowNibble x
  else if op &&& 0xC7 == 0x05 then lowNibble (x - 1) > lowNibble x
  else if isSubtractive op then lowNibble x < lowNibble y + cin.toNat
  else lowNibble x + lowNibble y + cin.toNat > 0x0F

/-- AUX (R7): AUX_DEFAULT, but for the points where this machine's parameter differs from it. -/
def State.aux (s : State) (op x y : Byte) (cin : Bool) : Bool :=
  match s.cfg.auxExceptions.find? (fun p => p.op == op && p.x == x && p.y == y && p.cin == cin) with
  | some p => p.ac
  | none => auxDefault op x y cin

/-- FLAGS_RESET (R8): the five flags are 0. -/
def resetFlags (cfg : Config) : Byte := cfg.flagsReset &&& reservedMask

/-- `cond(ccc)` (R181). -/
def State.cond (s : State) : Cond → Bool
  | .nz => !s.zf
  | .z => s.zf
  | .nc => !s.cy
  | .c => s.cy
  | .po => !s.pf
  | .pe => s.pf
  | .p => !s.sf
  | .m => s.sf

end Sys2Proof.Machine
end

