-- ==== Sys2Proof/Machine/Commands.lean ====
section
/-! DEFINITION. What each of the host's events does to the machine at an instruction boundary (R270, R290), and how the
queue of them is taken (R280). -/

namespace Sys2Proof.Machine

/-- `reset` (R278, R301): CORE's state as after construction, but BP as it was and FLAGS the machine's FLAGS_RESET. The
inputs, the outputs so far and the parameters are outside CORE and stay (log entry 16). -/
def State.resetCore (s : State) : State :=
  { State.reset with
    flags := resetFlags s.cfg
    bp := s.bp
    sstep := s.sstep
    sw := s.sw
    replies := s.replies
    io := s.io
    inbox := s.inbox
    cfg := s.cfg }

/-- `start` (R271): from Idle, or as the resume from a wait state. -/
def State.start (s : State) : State :=
  match s.run with
  | .idle => { s with run := .running }
  | .singleStepWait => { s with run := .running }
  | .breakpointHit _ => { s with run := .running }
  | .running => s
  | .halted _ => s

/-- `stop` (R273): Halted(Requested), but the first halt reason is kept. -/
def State.stop (s : State) : State :=
  match s.run with
  | .halted _ => s
  | .idle => s.halt .requested
  | .running => s.halt .requested
  | .singleStepWait => s.halt .requested
  | .breakpointHit _ => s.halt .requested

/-- `step` (R277): in a wait state, the grant of one instruction. -/
def State.grantStep (s : State) : State :=
  match s.run with
  | .singleStepWait => { s with grant := true }
  | .breakpointHit _ => { s with grant := true }
  | .idle => s
  | .running => s
  | .halted _ => s

/-- Put an address into a set kept in rising order, without duplicates. -/
def insertAddr : List Word → Word → List Word
  | [], x => [x]
  | y :: rest, x =>
    if x.toNat < y.toNat then x :: y :: rest
    else if x = y then y :: rest
    else y :: insertAddr rest x

/-- A breakpoint set in its canonical form (R32). -/
abbrev bpWf (bp : List Word) : Prop := bp.Pairwise (fun x y => x.toNat < y.toNat) ∧ bp.length ≤ 5

/-- The set of some addresses. -/
def addrSet (addrs : List Int) : List Word := addrs.foldl (fun set x => insertAddr set (BitVec.ofInt 16 x)) []

/-- May these addresses be a breakpoint set (R279: in range, at most five distinct)? -/
def bpRequestOk (addrs : List Int) : Bool :=
  addrs.all (fun x => decide (0 ≤ x ∧ x < memSize)) && decide ((addrSet addrs).length ≤ 5)

/-- `set_breakpoints(S)` (R279): the whole set is replaced, or the request is refused and nothing changes. -/
def State.setBreakpoints (s : State) (addrs : List Int) : State :=
  if bpRequestOk addrs then { s with bp := addrSet addrs } else s

/-- `load_rom(bytes)` (R282, R302, R264): only in Idle. -/
def State.loadRom (s : State) (bytes : List Byte) : State :=
  match s.run with
  | .idle =>
    if bytes.length ≤ memSize then { s with mem := s.mem.load 0 bytes } else s.halt (.romTooLarge bytes.length)
  | .running => s
  | .singleStepWait => s
  | .breakpointHit _ => s
  | .halted _ => s

/-- `apply_usr_patch()` (R306): ten bytes, only in Idle. DESIGN CHOICE (log entry 17): R290 admits it in "Idle, after
load_rom"; the model, which keeps no record of a load, performs it in Idle also when no `load_rom` came before. -/
def State.applyUsrPatch (s : State) (bytes : Vector Byte 8) : State :=
  match s.run with
  | .idle => { s with mem := (s.mem.load 0x0043 [0xF0, 0x0F]).load 0x0FF0 bytes.toList }
  | .running => s
  | .singleStepWait => s
  | .breakpointHit _ => s
  | .halted _ => s

/-- One event of the host (R270, R281, R290). -/
def hostEvent (ev : HostEvent) (s : State) : State :=
  match ev with
  | .start => s.start
  | .stop => s.stop
  | .step => s.grantStep
  | .reset => s.resetCore
  | .setBreakpoints addrs => s.setBreakpoints addrs
  | .loadRom bytes => s.loadRom bytes
  | .applyUsrPatch bytes => s.applyUsrPatch bytes
  | .setSstep level => { s with sstep := level }
  | .setSwitches value => { s with sw := value }

/-- Take the events that have arrived, one at a time and in order (R272, R280). A grant of one instruction is "used at once"
(R277), so the events after it wait for the next boundary. An event yet to come is one boundary nearer. -/
def takeEvents : List (Nat × HostEvent) → State → State
  | [], s => { s with inbox := [] }
  | (n + 1, ev) :: rest, s => { s with inbox := (n, ev) :: rest }
  | (0, ev) :: rest, s =>
    let t := hostEvent ev s
    if t.grant then { t with inbox := rest } else takeEvents rest t

/-- An instruction boundary (R280). -/
def State.boundary (s : State) : State := takeEvents s.inbox s

end Sys2Proof.Machine
end

