-- ==== Sys2Proof/Machine/Operands.lean ====
section
/-! DEFINITION. Every operand form: registers, M, register pairs, and targets. -/

namespace Sys2Proof.Machine

/-- `x[i]` (R12). -/
def State.reg (s : State) : Reg → Byte
  | .b => s.b
  | .c => s.c
  | .d => s.d
  | .e => s.e
  | .h => s.h
  | .l => s.l
  | .a => s.a

/-- `x[i] <- v` (R12). -/
def State.setReg (s : State) (r : Reg) (v : Byte) : State :=
  match r with
  | .b => { s with b := v }
  | .c => { s with c := v }
  | .d => { s with d := v }
  | .e => { s with e := v }
  | .h => { s with h := v }
  | .l => { s with l := v }
  | .a => { s with a := v }

/-- `rp[p]` (R12, R21). -/
def State.pair (s : State) : Pair → Word
  | .bc => Sys2Proof.pair s.b s.c
  | .de => Sys2Proof.pair s.d s.e
  | .hl => Sys2Proof.pair s.h s.l
  | .sp => s.sp

/-- `rp[p] <- w`: the high byte goes to the first-named register (R12, R21). -/
def State.setPair (s : State) (p : Pair) (w : Word) : State :=
  match p with
  | .bc => { s with b := hiByte w, c := loByte w }
  | .de => { s with d := hiByte w, e := loByte w }
  | .hl => { s with h := hiByte w, l := loByte w }
  | .sp => { s with sp := w }

/-- The address of M, always inside memory (R57). -/
def State.mAddr (s : State) : Nat := (s.pair .hl).toNat

/-- Reading what a register field names (R73). -/
def State.loc (s : State) : Loc → Byte
  | .reg r => s.reg r
  | .m => s.mem.read s.mAddr

/-- Writing what a register field names (R73). -/
def State.setLoc (s : State) (x : Loc) (v : Byte) : State :=
  match x with
  | .reg r => s.setReg r v
  | .m => { s with mem := s.mem.write s.mAddr v }

/-- `Target(t)` (R183). -/
def State.target (s : State) (t : Word) : Word := (s.cfg.remap.lookup t).getD t

end Sys2Proof.Machine
end

