-- ==== Sys2Proof/Machine/Arithmetic.lean ====
section
/-! DEFINITION. The meanings of the 8-bit arithmetic instructions (43_arithmetic.md, R140 to R157). Each computes on
integers and narrows at the end (R157). -/

namespace Sys2Proof.Machine

/-- `x + y + cin` into A with all five flags (R142, R144). -/
def addWith (op y : Byte) (cin : Bool) (len : Nat) (s : State) : Host.Outcome State Fault Refusal :=
  let sum := s.a.toNat + y.toNat + cin.toNat
  let r := BitVec.ofNat 8 sum
  done len { s with a := r, flags := Flags.result s.flags r (decide (sum > 255)) (s.aux op s.a y cin) }

/-- The integer difference `x - y - cin` (R146, R148, R157). -/
def difference (x y : Byte) (cin : Bool) : Int := (x.toNat : Int) - y.toNat - cin.toNat

/-- The flags of a subtraction: CY is the borrow (R146, R148, R150). -/
def subtractFlags (op y : Byte) (cin : Bool) (s : State) : Byte :=
  let d := difference s.a y cin
  Flags.result s.flags (BitVec.ofInt 8 d) (decide (d < 0)) (s.aux op s.a y cin)

/-- `x - y - cin` into A with all five flags (R146, R148). -/
def subtractWith (op y : Byte) (cin : Bool) (len : Nat) (s : State) : Host.Outcome State Fault Refusal :=
  done len { s with a := BitVec.ofInt 8 (difference s.a y cin), flags := subtractFlags op y cin s }

/-- ADD, ADI (R142, R143, R152). -/
def addA (op y : Byte) (len : Nat) (s : State) : Host.Outcome State Fault Refusal := addWith op y false len s

/-- ADC, ACI: the old CY is added too (R144, R145, R153). -/
def adcA (op y : Byte) (len : Nat) (s : State) : Host.Outcome State Fault Refusal := addWith op y s.cy len s

/-- SUB, SUI (R146, R147, R154). -/
def subA (op y : Byte) (len : Nat) (s : State) : Host.Outcome State Fault Refusal := subtractWith op y false len s

/-- SBB, SBI: the old CY is subtracted too (R148, R149, R155). -/
def sbbA (op y : Byte) (len : Nat) (s : State) : Host.Outcome State Fault Refusal := subtractWith op y s.cy len s

/-- CMP, CPI: the flags of the subtraction, A unchanged (R150, R151, R156). -/
def cmpA (op y : Byte) (len : Nat) (s : State) : Host.Outcome State Fault Refusal :=
  done len { s with flags := subtractFlags op y false s }

/-- ADD B (0x80): R142. -/
def execAddB (s : State) : Host.Outcome State Fault Refusal :=
  addA 0x80 (s.loc (.reg .b)) 1 s

/-- ADD C (0x81): R142. -/
def execAddC (s : State) : Host.Outcome State Fault Refusal :=
  addA 0x81 (s.loc (.reg .c)) 1 s

/-- ADD D (0x82): R142. -/
def execAddD (s : State) : Host.Outcome State Fault Refusal :=
  addA 0x82 (s.loc (.reg .d)) 1 s

/-- ADD E (0x83): R142. -/
def execAddE (s : State) : Host.Outcome State Fault Refusal :=
  addA 0x83 (s.loc (.reg .e)) 1 s

/-- ADD H (0x84): R142. -/
def execAddH (s : State) : Host.Outcome State Fault Refusal :=
  addA 0x84 (s.loc (.reg .h)) 1 s

/-- ADD L (0x85): R142. -/
def execAddL (s : State) : Host.Outcome State Fault Refusal :=
  addA 0x85 (s.loc (.reg .l)) 1 s

/-- ADD M (0x86): R143. -/
def execAddM (s : State) : Host.Outcome State Fault Refusal :=
  addA 0x86 (s.loc .m) 1 s

/-- ADD A (0x87): R142. -/
def execAddA (s : State) : Host.Outcome State Fault Refusal :=
  addA 0x87 (s.loc (.reg .a)) 1 s

/-- ADC B (0x88): R144. -/
def execAdcB (s : State) : Host.Outcome State Fault Refusal :=
  adcA 0x88 (s.loc (.reg .b)) 1 s

/-- ADC C (0x89): R144. -/
def execAdcC (s : State) : Host.Outcome State Fault Refusal :=
  adcA 0x89 (s.loc (.reg .c)) 1 s

/-- ADC D (0x8A): R144. -/
def execAdcD (s : State) : Host.Outcome State Fault Refusal :=
  adcA 0x8A (s.loc (.reg .d)) 1 s

/-- ADC E (0x8B): R144. -/
def execAdcE (s : State) : Host.Outcome State Fault Refusal :=
  adcA 0x8B (s.loc (.reg .e)) 1 s

/-- ADC H (0x8C): R144. -/
def execAdcH (s : State) : Host.Outcome State Fault Refusal :=
  adcA 0x8C (s.loc (.reg .h)) 1 s

/-- ADC L (0x8D): R144. -/
def execAdcL (s : State) : Host.Outcome State Fault Refusal :=
  adcA 0x8D (s.loc (.reg .l)) 1 s

/-- ADC M (0x8E): R145. -/
def execAdcM (s : State) : Host.Outcome State Fault Refusal :=
  adcA 0x8E (s.loc .m) 1 s

/-- ADC A (0x8F): R144. -/
def execAdcA (s : State) : Host.Outcome State Fault Refusal :=
  adcA 0x8F (s.loc (.reg .a)) 1 s

/-- SUB B (0x90): R146. -/
def execSubB (s : State) : Host.Outcome State Fault Refusal :=
  subA 0x90 (s.loc (.reg .b)) 1 s

/-- SUB C (0x91): R146. -/
def execSubC (s : State) : Host.Outcome State Fault Refusal :=
  subA 0x91 (s.loc (.reg .c)) 1 s

/-- SUB D (0x92): R146. -/
def execSubD (s : State) : Host.Outcome State Fault Refusal :=
  subA 0x92 (s.loc (.reg .d)) 1 s

/-- SUB E (0x93): R146. -/
def execSubE (s : State) : Host.Outcome State Fault Refusal :=
  subA 0x93 (s.loc (.reg .e)) 1 s

/-- SUB H (0x94): R146. -/
def execSubH (s : State) : Host.Outcome State Fault Refusal :=
  subA 0x94 (s.loc (.reg .h)) 1 s

/-- SUB L (0x95): R146. -/
def execSubL (s : State) : Host.Outcome State Fault Refusal :=
  subA 0x95 (s.loc (.reg .l)) 1 s

/-- SUB M (0x96): R147. -/
def execSubM (s : State) : Host.Outcome State Fault Refusal :=
  subA 0x96 (s.loc .m) 1 s

/-- SUB A (0x97): R146. -/
def execSubA (s : State) : Host.Outcome State Fault Refusal :=
  subA 0x97 (s.loc (.reg .a)) 1 s

/-- SBB B (0x98): R148. -/
def execSbbB (s : State) : Host.Outcome State Fault Refusal :=
  sbbA 0x98 (s.loc (.reg .b)) 1 s

/-- SBB C (0x99): R148. -/
def execSbbC (s : State) : Host.Outcome State Fault Refusal :=
  sbbA 0x99 (s.loc (.reg .c)) 1 s

/-- SBB D (0x9A): R148. -/
def execSbbD (s : State) : Host.Outcome State Fault Refusal :=
  sbbA 0x9A (s.loc (.reg .d)) 1 s

/-- SBB E (0x9B): R148. -/
def execSbbE (s : State) : Host.Outcome State Fault Refusal :=
  sbbA 0x9B (s.loc (.reg .e)) 1 s

/-- SBB H (0x9C): R148. -/
def execSbbH (s : State) : Host.Outcome State Fault Refusal :=
  sbbA 0x9C (s.loc (.reg .h)) 1 s

/-- SBB L (0x9D): R148. -/
def execSbbL (s : State) : Host.Outcome State Fault Refusal :=
  sbbA 0x9D (s.loc (.reg .l)) 1 s

/-- SBB M (0x9E): R149. -/
def execSbbM (s : State) : Host.Outcome State Fault Refusal :=
  sbbA 0x9E (s.loc .m) 1 s

/-- SBB A (0x9F): R148. -/
def execSbbA (s : State) : Host.Outcome State Fault Refusal :=
  sbbA 0x9F (s.loc (.reg .a)) 1 s

/-- CMP B (0xB8): R150. -/
def execCmpB (s : State) : Host.Outcome State Fault Refusal :=
  cmpA 0xB8 (s.loc (.reg .b)) 1 s

/-- CMP C (0xB9): R150. -/
def execCmpC (s : State) : Host.Outcome State Fault Refusal :=
  cmpA 0xB9 (s.loc (.reg .c)) 1 s

/-- CMP D (0xBA): R150. -/
def execCmpD (s : State) : Host.Outcome State Fault Refusal :=
  cmpA 0xBA (s.loc (.reg .d)) 1 s

/-- CMP E (0xBB): R150. -/
def execCmpE (s : State) : Host.Outcome State Fault Refusal :=
  cmpA 0xBB (s.loc (.reg .e)) 1 s

/-- CMP H (0xBC): R150. -/
def execCmpH (s : State) : Host.Outcome State Fault Refusal :=
  cmpA 0xBC (s.loc (.reg .h)) 1 s

/-- CMP L (0xBD): R150. -/
def execCmpL (s : State) : Host.Outcome State Fault Refusal :=
  cmpA 0xBD (s.loc (.reg .l)) 1 s

/-- CMP M (0xBE): R151. -/
def execCmpM (s : State) : Host.Outcome State Fault Refusal :=
  cmpA 0xBE (s.loc .m) 1 s

/-- CMP A (0xBF): R150. -/
def execCmpA (s : State) : Host.Outcome State Fault Refusal :=
  cmpA 0xBF (s.loc (.reg .a)) 1 s

/-- ADI d8 (0xC6): R152. -/
def execAdi (d8 : Byte) (s : State) : Host.Outcome State Fault Refusal :=
  addA 0xC6 d8 2 s

/-- ACI d8 (0xCE): R153. -/
def execAci (d8 : Byte) (s : State) : Host.Outcome State Fault Refusal :=
  adcA 0xCE d8 2 s

/-- SUI d8 (0xD6): R154. -/
def execSui (d8 : Byte) (s : State) : Host.Outcome State Fault Refusal :=
  subA 0xD6 d8 2 s

/-- SBI d8 (0xDE): R155. -/
def execSbi (d8 : Byte) (s : State) : Host.Outcome State Fault Refusal :=
  sbbA 0xDE d8 2 s

/-- CPI d8 (0xFE): R156. -/
def execCpi (d8 : Byte) (s : State) : Host.Outcome State Fault Refusal :=
  cmpA 0xFE d8 2 s

end Sys2Proof.Machine
end

