-- ==== Sys2Proof/Machine/Control.lean ====
section
/-! DEFINITION. The meanings of the control transfer instructions (45_control_transfer.md, R180 to R211). -/

namespace Sys2Proof.Machine

/-- A conditional jump of three bytes (R185 to R192). -/
def jumpIf (taken : Bool) (target : Word) (s : State) : Host.Outcome State Fault Refusal :=
  if taken then .next (s.jump target) else done 3 s

/-- CALL and RST (R193, R211): the return address must be a 16-bit value; then the push; then the jump. -/
def callTo (target : Word) (len : Nat) (s : State) : Host.Outcome State Fault Refusal :=
  let ret := s.pc + len
  takeHalt s <|
    if ret ≥ memSize then .error (.outOfBounds ret)
    else (pushWord s (BitVec.ofNat 16 ret)).map (fun t => t.jump target)

/-- A conditional call of three bytes (R194 to R201). -/
def callIf (taken : Bool) (target : Word) (s : State) : Host.Outcome State Fault Refusal :=
  if taken then callTo target 3 s else done 3 s

/-- Pop the return address and go where `via` takes it (R202). -/
def returnVia (via : Word → Word) (s : State) : Host.Outcome State Fault Refusal :=
  takeHalt s ((popWord s).map (fun p => p.2.jump (via p.1)))

/-- A conditional return of one byte (R203 to R210). -/
def returnIf (taken : Bool) (via : Word → Word) (s : State) : Host.Outcome State Fault Refusal :=
  if taken then returnVia via s else done 1 s

/-- RNZ (0xC0): R203. -/
def execRnz (s : State) : Host.Outcome State Fault Refusal :=
  returnIf (s.cond .nz) id s

/-- JNZ a16 (0xC2): R185. -/
def execJnz (a16 : Word) (s : State) : Host.Outcome State Fault Refusal :=
  jumpIf (s.cond .nz) a16 s

/-- JMP a16 (0xC3): R184. -/
def execJmp (a16 : Word) (s : State) : Host.Outcome State Fault Refusal :=
  .next (s.jump a16)

/-- CNZ a16 (0xC4): R194. -/
def execCnz (a16 : Word) (s : State) : Host.Outcome State Fault Refusal :=
  callIf (s.cond .nz) a16 s

/-- RST 0 (0xC7): R211. -/
def execRst0 (s : State) : Host.Outcome State Fault Refusal :=
  callTo 0x0000 1 s

/-- RZ (0xC8): R204. -/
def execRz (s : State) : Host.Outcome State Fault Refusal :=
  returnIf (s.cond .z) s.target s

/-- RET (0xC9): R202. -/
def execRet (s : State) : Host.Outcome State Fault Refusal :=
  returnVia s.target s

/-- JZ a16 (0xCA): R186. -/
def execJz (a16 : Word) (s : State) : Host.Outcome State Fault Refusal :=
  jumpIf (s.cond .z) (s.target a16) s

/-- CZ a16 (0xCC): R195. -/
def execCz (a16 : Word) (s : State) : Host.Outcome State Fault Refusal :=
  callIf (s.cond .z) a16 s

/-- CALL a16 (0xCD): R193. -/
def execCall (a16 : Word) (s : State) : Host.Outcome State Fault Refusal :=
  callTo a16 3 s

/-- RST 1 (0xCF): R211. -/
def execRst1 (s : State) : Host.Outcome State Fault Refusal :=
  callTo 0x0008 1 s

/-- RNC (0xD0): R205. -/
def execRnc (s : State) : Host.Outcome State Fault Refusal :=
  returnIf (s.cond .nc) id s

/-- JNC a16 (0xD2): R187. -/
def execJnc (a16 : Word) (s : State) : Host.Outcome State Fault Refusal :=
  jumpIf (s.cond .nc) a16 s

/-- CNC a16 (0xD4): R196. -/
def execCnc (a16 : Word) (s : State) : Host.Outcome State Fault Refusal :=
  callIf (s.cond .nc) a16 s

/-- RST 2 (0xD7): R211. -/
def execRst2 (s : State) : Host.Outcome State Fault Refusal :=
  callTo 0x0010 1 s

/-- RC (0xD8): R206. -/
def execRc (s : State) : Host.Outcome State Fault Refusal :=
  returnIf (s.cond .c) id s

/-- JC a16 (0xDA): R188. -/
def execJc (a16 : Word) (s : State) : Host.Outcome State Fault Refusal :=
  jumpIf (s.cond .c) a16 s

/-- CC a16 (0xDC): R197. -/
def execCc (a16 : Word) (s : State) : Host.Outcome State Fault Refusal :=
  callIf (s.cond .c) a16 s

/-- RST 3 (0xDF): R211. -/
def execRst3 (s : State) : Host.Outcome State Fault Refusal :=
  callTo 0x0018 1 s

/-- RPO (0xE0): R207. -/
def execRpo (s : State) : Host.Outcome State Fault Refusal :=
  returnIf (s.cond .po) id s

/-- JPO a16 (0xE2): R189. -/
def execJpo (a16 : Word) (s : State) : Host.Outcome State Fault Refusal :=
  jumpIf (s.cond .po) a16 s

/-- CPO a16 (0xE4): R198. -/
def execCpo (a16 : Word) (s : State) : Host.Outcome State Fault Refusal :=
  callIf (s.cond .po) a16 s

/-- RST 4 (0xE7): R211. -/
def execRst4 (s : State) : Host.Outcome State Fault Refusal :=
  callTo 0x0020 1 s

/-- RPE (0xE8): R208. -/
def execRpe (s : State) : Host.Outcome State Fault Refusal :=
  returnIf (s.cond .pe) id s

/-- JPE a16 (0xEA): R190. -/
def execJpe (a16 : Word) (s : State) : Host.Outcome State Fault Refusal :=
  jumpIf (s.cond .pe) a16 s

/-- CPE a16 (0xEC): R199. -/
def execCpe (a16 : Word) (s : State) : Host.Outcome State Fault Refusal :=
  callIf (s.cond .pe) a16 s

/-- RST 5 (0xEF): R211. -/
def execRst5 (s : State) : Host.Outcome State Fault Refusal :=
  callTo 0x0028 1 s

/-- RP (0xF0): R209. -/
def execRp (s : State) : Host.Outcome State Fault Refusal :=
  returnIf (s.cond .p) id s

/-- JP a16 (0xF2): R191. -/
def execJp (a16 : Word) (s : State) : Host.Outcome State Fault Refusal :=
  jumpIf (s.cond .p) a16 s

/-- CP a16 (0xF4): R200. -/
def execCp (a16 : Word) (s : State) : Host.Outcome State Fault Refusal :=
  callIf (s.cond .p) a16 s

/-- RST 6 (0xF7): R211. -/
def execRst6 (s : State) : Host.Outcome State Fault Refusal :=
  callTo 0x0030 1 s

/-- RM (0xF8): R210. -/
def execRm (s : State) : Host.Outcome State Fault Refusal :=
  returnIf (s.cond .m) id s

/-- JM a16 (0xFA): R192. -/
def execJm (a16 : Word) (s : State) : Host.Outcome State Fault Refusal :=
  jumpIf (s.cond .m) a16 s

/-- CM a16 (0xFC): R201. -/
def execCm (a16 : Word) (s : State) : Host.Outcome State Fault Refusal :=
  callIf (s.cond .m) a16 s

/-- RST 7 (0xFF): R211. -/
def execRst7 (s : State) : Host.Outcome State Fault Refusal :=
  callTo 0x0038 1 s

end Sys2Proof.Machine
end

