-- ==== Sys2Proof/Machine/DataTransfer.lean ====
section
/-! DEFINITION. The meanings of the data transfer instructions (40_data_transfer.md, R100 to R116). -/

namespace Sys2Proof.Machine

/-- MOV: copy what the source field names to what the destination field names (R101 to R103). -/
def move (dst src : Loc) (s : State) : Host.Outcome State Fault Refusal := done 1 (s.setLoc dst (s.loc src))

/-- MVI: the immediate to what the destination field names (R104, R105). -/
def moveImm (dst : Loc) (d8 : Byte) (s : State) : Host.Outcome State Fault Refusal := done 2 (s.setLoc dst d8)

/-- LHLD (R109): L from a16, H from a16 + 1, which is not wrapped. -/
def loadHL (a16 : Word) (s : State) : Except Fault State :=
  match memRead s (a16.toNat + 1) with
  | .error f => .error f
  | .ok hi => .ok ({ s with l := s.mem.read a16.toNat, h := hi }.advance 3)

/-- SHLD (R110): the check comes before any write. -/
def storeHL (a16 : Word) (s : State) : Except Fault State :=
  if a16.toNat + 1 ≥ memSize then .error (.outOfBounds (a16.toNat + 1))
  else .ok ({ s with mem := (s.mem.write a16.toNat s.l).write (a16.toNat + 1) s.h }.advance 3)

/-- XTHL (R114): both bytes are read before both are written; SP is not changed. -/
def exchangeTop (s : State) : Except Fault State :=
  if s.sp.toNat + 1 ≥ memSize then .error (.outOfBounds (s.sp.toNat + 1))
  else
    let lo := s.mem.read s.sp.toNat
    let hi := s.mem.read (s.sp.toNat + 1)
    .ok ({ s with mem := (s.mem.write s.sp.toNat s.l).write (s.sp.toNat + 1) s.h, l := lo, h := hi }.advance 1)

/-- LXI B,d16 (0x01): R106. -/
def execLxiB (d16 : Word) (s : State) : Host.Outcome State Fault Refusal :=
  done 3 (s.setPair .bc d16)

/-- STAX B (0x02): R112. -/
def execStaxB (s : State) : Host.Outcome State Fault Refusal :=
  done 1 { s with mem := s.mem.write (s.pair .bc).toNat s.a }

/-- MVI B,d8 (0x06): R104. -/
def execMviB (d8 : Byte) (s : State) : Host.Outcome State Fault Refusal :=
  moveImm (.reg .b) d8 s

/-- LDAX B (0x0A): R111. -/
def execLdaxB (s : State) : Host.Outcome State Fault Refusal :=
  done 1 { s with a := s.mem.read (s.pair .bc).toNat }

/-- MVI C,d8 (0x0E): R104. -/
def execMviC (d8 : Byte) (s : State) : Host.Outcome State Fault Refusal :=
  moveImm (.reg .c) d8 s

/-- LXI D,d16 (0x11): R106. -/
def execLxiD (d16 : Word) (s : State) : Host.Outcome State Fault Refusal :=
  done 3 (s.setPair .de d16)

/-- STAX D (0x12): R112. -/
def execStaxD (s : State) : Host.Outcome State Fault Refusal :=
  done 1 { s with mem := s.mem.write (s.pair .de).toNat s.a }

/-- MVI D,d8 (0x16): R104. -/
def execMviD (d8 : Byte) (s : State) : Host.Outcome State Fault Refusal :=
  moveImm (.reg .d) d8 s

/-- LDAX D (0x1A): R111. -/
def execLdaxD (s : State) : Host.Outcome State Fault Refusal :=
  done 1 { s with a := s.mem.read (s.pair .de).toNat }

/-- MVI E,d8 (0x1E): R104. -/
def execMviE (d8 : Byte) (s : State) : Host.Outcome State Fault Refusal :=
  moveImm (.reg .e) d8 s

/-- LXI H,d16 (0x21): R106. -/
def execLxiH (d16 : Word) (s : State) : Host.Outcome State Fault Refusal :=
  done 3 (s.setPair .hl d16)

/-- SHLD a16 (0x22): R110. -/
def execShld (a16 : Word) (s : State) : Host.Outcome State Fault Refusal :=
  takeHalt s (storeHL a16 s)

/-- MVI H,d8 (0x26): R104. -/
def execMviH (d8 : Byte) (s : State) : Host.Outcome State Fault Refusal :=
  moveImm (.reg .h) d8 s

/-- LHLD a16 (0x2A): R109. -/
def execLhld (a16 : Word) (s : State) : Host.Outcome State Fault Refusal :=
  takeHalt s (loadHL a16 s)

/-- MVI L,d8 (0x2E): R104. -/
def execMviL (d8 : Byte) (s : State) : Host.Outcome State Fault Refusal :=
  moveImm (.reg .l) d8 s

/-- LXI SP,d16 (0x31): R106. -/
def execLxiSp (d16 : Word) (s : State) : Host.Outcome State Fault Refusal :=
  done 3 (s.setPair .sp d16)

/-- STA a16 (0x32): R108. -/
def execSta (a16 : Word) (s : State) : Host.Outcome State Fault Refusal :=
  done 3 { s with mem := s.mem.write a16.toNat s.a }

/-- MVI M,d8 (0x36): R105. -/
def execMviM (d8 : Byte) (s : State) : Host.Outcome State Fault Refusal :=
  moveImm .m d8 s

/-- LDA a16 (0x3A): R107. -/
def execLda (a16 : Word) (s : State) : Host.Outcome State Fault Refusal :=
  done 3 { s with a := s.mem.read a16.toNat }

/-- MVI A,d8 (0x3E): R104. -/
def execMviA (d8 : Byte) (s : State) : Host.Outcome State Fault Refusal :=
  moveImm (.reg .a) d8 s

/-- MOV B,B (0x40): R101. -/
def execMovBB (s : State) : Host.Outcome State Fault Refusal :=
  move (.reg .b) (.reg .b) s

/-- MOV B,C (0x41): R101. -/
def execMovBC (s : State) : Host.Outcome State Fault Refusal :=
  move (.reg .b) (.reg .c) s

/-- MOV B,D (0x42): R101. -/
def execMovBD (s : State) : Host.Outcome State Fault Refusal :=
  move (.reg .b) (.reg .d) s

/-- MOV B,E (0x43): R101. -/
def execMovBE (s : State) : Host.Outcome State Fault Refusal :=
  move (.reg .b) (.reg .e) s

/-- MOV B,H (0x44): R101. -/
def execMovBH (s : State) : Host.Outcome State Fault Refusal :=
  move (.reg .b) (.reg .h) s

/-- MOV B,L (0x45): R101. -/
def execMovBL (s : State) : Host.Outcome State Fault Refusal :=
  move (.reg .b) (.reg .l) s

/-- MOV B,M (0x46): R102. -/
def execMovBM (s : State) : Host.Outcome State Fault Refusal :=
  move (.reg .b) .m s

/-- MOV B,A (0x47): R101. -/
def execMovBA (s : State) : Host.Outcome State Fault Refusal :=
  move (.reg .b) (.reg .a) s

/-- MOV C,B (0x48): R101. -/
def execMovCB (s : State) : Host.Outcome State Fault Refusal :=
  move (.reg .c) (.reg .b) s

/-- MOV C,C (0x49): R101. -/
def execMovCC (s : State) : Host.Outcome State Fault Refusal :=
  move (.reg .c) (.reg .c) s

/-- MOV C,D (0x4A): R101. -/
def execMovCD (s : State) : Host.Outcome State Fault Refusal :=
  move (.reg .c) (.reg .d) s

/-- MOV C,E (0x4B): R101. -/
def execMovCE (s : State) : Host.Outcome State Fault Refusal :=
  move (.reg .c) (.reg .e) s

/-- MOV C,H (0x4C): R101. -/
def execMovCH (s : State) : Host.Outcome State Fault Refusal :=
  move (.reg .c) (.reg .h) s

/-- MOV C,L (0x4D): R101. -/
def execMovCL (s : State) : Host.Outcome State Fault Refusal :=
  move (.reg .c) (.reg .l) s

/-- MOV C,M (0x4E): R102. -/
def execMovCM (s : State) : Host.Outcome State Fault Refusal :=
  move (.reg .c) .m s

/-- MOV C,A (0x4F): R101. -/
def execMovCA (s : State) : Host.Outcome State Fault Refusal :=
  move (.reg .c) (.reg .a) s

/-- MOV D,B (0x50): R101. -/
def execMovDB (s : State) : Host.Outcome State Fault Refusal :=
  move (.reg .d) (.reg .b) s

/-- MOV D,C (0x51): R101. -/
def execMovDC (s : State) : Host.Outcome State Fault Refusal :=
  move (.reg .d) (.reg .c) s

/-- MOV D,D (0x52): R101. -/
def execMovDD (s : State) : Host.Outcome State Fault Refusal :=
  move (.reg .d) (.reg .d) s

/-- MOV D,E (0x53): R101. -/
def execMovDE (s : State) : Host.Outcome State Fault Refusal :=
  move (.reg .d) (.reg .e) s

/-- MOV D,H (0x54): R101. -/
def execMovDH (s : State) : Host.Outcome State Fault Refusal :=
  move (.reg .d) (.reg .h) s

/-- MOV D,L (0x55): R101. -/
def execMovDL (s : State) : Host.Outcome State Fault Refusal :=
  move (.reg .d) (.reg .l) s

/-- MOV D,M (0x56): R102. -/
def execMovDM (s : State) : Host.Outcome State Fault Refusal :=
  move (.reg .d) .m s

/-- MOV D,A (0x57): R101. -/
def execMovDA (s : State) : Host.Outcome State Fault Refusal :=
  move (.reg .d) (.reg .a) s

/-- MOV E,B (0x58): R101. -/
def execMovEB (s : State) : Host.Outcome State Fault Refusal :=
  move (.reg .e) (.reg .b) s

/-- MOV E,C (0x59): R101. -/
def execMovEC (s : State) : Host.Outcome State Fault Refusal :=
  move (.reg .e) (.reg .c) s

/-- MOV E,D (0x5A): R101. -/
def execMovED (s : State) : Host.Outcome State Fault Refusal :=
  move (.reg .e) (.reg .d) s

/-- MOV E,E (0x5B): R101. -/
def execMovEE (s : State) : Host.Outcome State Fault Refusal :=
  move (.reg .e) (.reg .e) s

/-- MOV E,H (0x5C): R101. -/
def execMovEH (s : State) : Host.Outcome State Fault Refusal :=
  move (.reg .e) (.reg .h) s

/-- MOV E,L (0x5D): R101. -/
def execMovEL (s : State) : Host.Outcome State Fault Refusal :=
  move (.reg .e) (.reg .l) s

/-- MOV E,M (0x5E): R102. -/
def execMovEM (s : State) : Host.Outcome State Fault Refusal :=
  move (.reg .e) .m s

/-- MOV E,A (0x5F): R101. -/
def execMovEA (s : State) : Host.Outcome State Fault Refusal :=
  move (.reg .e) (.reg .a) s

/-- MOV H,B (0x60): R101. -/
def execMovHB (s : State) : Host.Outcome State Fault Refusal :=
  move (.reg .h) (.reg .b) s

/-- MOV H,C (0x61): R101. -/
def execMovHC (s : State) : Host.Outcome State Fault Refusal :=
  move (.reg .h) (.reg .c) s

/-- MOV H,D (0x62): R101. -/
def execMovHD (s : State) : Host.Outcome State Fault Refusal :=
  move (.reg .h) (.reg .d) s

/-- MOV H,E (0x63): R101. -/
def execMovHE (s : State) : Host.Outcome State Fault Refusal :=
  move (.reg .h) (.reg .e) s

/-- MOV H,H (0x64): R101. -/
def execMovHH (s : State) : Host.Outcome State Fault Refusal :=
  move (.reg .h) (.reg .h) s

/-- MOV H,L (0x65): R101. -/
def execMovHL (s : State) : Host.Outcome State Fault Refusal :=
  move (.reg .h) (.reg .l) s

/-- MOV H,M (0x66): R102. -/
def execMovHM (s : State) : Host.Outcome State Fault Refusal :=
  move (.reg .h) .m s

/-- MOV H,A (0x67): R101. -/
def execMovHA (s : State) : Host.Outcome State Fault Refusal :=
  move (.reg .h) (.reg .a) s

/-- MOV L,B (0x68): R101. -/
def execMovLB (s : State) : Host.Outcome State Fault Refusal :=
  move (.reg .l) (.reg .b) s

/-- MOV L,C (0x69): R101. -/
def execMovLC (s : State) : Host.Outcome State Fault Refusal :=
  move (.reg .l) (.reg .c) s

/-- MOV L,D (0x6A): R101. -/
def execMovLD (s : State) : Host.Outcome State Fault Refusal :=
  move (.reg .l) (.reg .d) s

/-- MOV L,E (0x6B): R101. -/
def execMovLE (s : State) : Host.Outcome State Fault Refusal :=
  move (.reg .l) (.reg .e) s

/-- MOV L,H (0x6C): R101. -/
def execMovLH (s : State) : Host.Outcome State Fault Refusal :=
  move (.reg .l) (.reg .h) s

/-- MOV L,L (0x6D): R101. -/
def execMovLL (s : State) : Host.Outcome State Fault Refusal :=
  move (.reg .l) (.reg .l) s

/-- MOV L,M (0x6E): R102. -/
def execMovLM (s : State) : Host.Outcome State Fault Refusal :=
  move (.reg .l) .m s

/-- MOV L,A (0x6F): R101. -/
def execMovLA (s : State) : Host.Outcome State Fault Refusal :=
  move (.reg .l) (.reg .a) s

/-- MOV M,B (0x70): R103. -/
def execMovMB (s : State) : Host.Outcome State Fault Refusal :=
  move .m (.reg .b) s

/-- MOV M,C (0x71): R103. -/
def execMovMC (s : State) : Host.Outcome State Fault Refusal :=
  move .m (.reg .c) s

/-- MOV M,D (0x72): R103. -/
def execMovMD (s : State) : Host.Outcome State Fault Refusal :=
  move .m (.reg .d) s

/-- MOV M,E (0x73): R103. -/
def execMovME (s : State) : Host.Outcome State Fault Refusal :=
  move .m (.reg .e) s

/-- MOV M,H (0x74): R103. -/
def execMovMH (s : State) : Host.Outcome State Fault Refusal :=
  move .m (.reg .h) s

/-- MOV M,L (0x75): R103. -/
def execMovML (s : State) : Host.Outcome State Fault Refusal :=
  move .m (.reg .l) s

/-- MOV M,A (0x77): R103. -/
def execMovMA (s : State) : Host.Outcome State Fault Refusal :=
  move .m (.reg .a) s

/-- MOV A,B (0x78): R101. -/
def execMovAB (s : State) : Host.Outcome State Fault Refusal :=
  move (.reg .a) (.reg .b) s

/-- MOV A,C (0x79): R101. -/
def execMovAC (s : State) : Host.Outcome State Fault Refusal :=
  move (.reg .a) (.reg .c) s

/-- MOV A,D (0x7A): R101. -/
def execMovAD (s : State) : Host.Outcome State Fault Refusal :=
  move (.reg .a) (.reg .d) s

/-- MOV A,E (0x7B): R101. -/
def execMovAE (s : State) : Host.Outcome State Fault Refusal :=
  move (.reg .a) (.reg .e) s

/-- MOV A,H (0x7C): R101. -/
def execMovAH (s : State) : Host.Outcome State Fault Refusal :=
  move (.reg .a) (.reg .h) s

/-- MOV A,L (0x7D): R101. -/
def execMovAL (s : State) : Host.Outcome State Fault Refusal :=
  move (.reg .a) (.reg .l) s

/-- MOV A,M (0x7E): R102. -/
def execMovAM (s : State) : Host.Outcome State Fault Refusal :=
  move (.reg .a) .m s

/-- MOV A,A (0x7F): R101. -/
def execMovAA (s : State) : Host.Outcome State Fault Refusal :=
  move (.reg .a) (.reg .a) s

/-- XTHL (0xE3): R114. -/
def execXthl (s : State) : Host.Outcome State Fault Refusal :=
  takeHalt s (exchangeTop s)

/-- PCHL (0xE9): R116. -/
def execPchl (s : State) : Host.Outcome State Fault Refusal :=
  .next (s.jump (s.pair .hl))

/-- XCHG (0xEB): R113. -/
def execXchg (s : State) : Host.Outcome State Fault Refusal :=
  done 1 { s with d := s.h, e := s.l, h := s.d, l := s.e }

/-- SPHL (0xF9): R115. -/
def execSphl (s : State) : Host.Outcome State Fault Refusal :=
  done 1 { s with sp := s.pair .hl }

end Sys2Proof.Machine
end

