-- ==== Sys2Proof/Machine/DoubleAdd.lean ====
section
/-! DEFINITION. The meanings of the four DAD (42_double_add.md, R130). -/

namespace Sys2Proof.Machine

/-- DAD (R130): HL plus the pair, CY iff the integer sum exceeds 65535. -/
def doubleAdd (w : Word) (s : State) : Host.Outcome State Fault Refusal :=
  let sum := (s.pair .hl).toNat + w.toNat
  done 1 { s.setPair .hl (BitVec.ofNat 16 sum) with flags := Flags.setCY s.flags (decide (sum > 65535)) }

/-- DAD B (0x09): R130. -/
def execDadB (s : State) : Host.Outcome State Fault Refusal :=
  doubleAdd (s.pair .bc) s

/-- DAD D (0x19): R130. -/
def execDadD (s : State) : Host.Outcome State Fault Refusal :=
  doubleAdd (s.pair .de) s

/-- DAD H (0x29): R130. -/
def execDadH (s : State) : Host.Outcome State Fault Refusal :=
  doubleAdd (s.pair .hl) s

/-- DAD SP (0x39): R130. -/
def execDadSp (s : State) : Host.Outcome State Fault Refusal :=
  doubleAdd (s.pair .sp) s

end Sys2Proof.Machine
end

