-- ==== Sys2Proof/Machine/InOut.lean ====
section
/-! DEFINITION. The meanings of IN and OUT (47_io.md, R230 to R232). -/

namespace Sys2Proof.Machine

/-- The port of the sense switches (R286). -/
def sensePort : Byte := 0xFF

/-- IN gets its byte: A, the event at the boundary, pc (R231). -/
def inputDone (port v : Byte) (s : State) : Host.Outcome State Fault Refusal :=
  done 2 { s with a := v, io := s.io ++ [.read (s.pc + s.cfg.ioPcView.val) port v] }

/-- IN (R231). On every port the Bridge may still be busy, or may never answer (R230): then no register, flag or pc changes.
An answer ends one IN, from whichever port, so the next IN may wait anew. Port 0xFF gets the high half of the sense switches
(R286), another port the byte answered or, with nothing listed, a free value (log entries 5 and 6). -/
def input (port : Byte) (s : State) : Host.Outcome State Fault Refusal :=
  let got (v : Byte) : Byte := if port = sensePort then hiByte s.sw else v
  match s.replies with
  | .never :: _ => .next s
  | .later :: rest => .next { s with replies := rest }
  | .byte v :: rest => inputDone port (got v) { s with replies := rest }
  | [] => inputDone port (got (Config.bridgeByte s.io.length (s.pc + s.cfg.ioPcView.val) port)) s

/-- Would an IN, from whichever port, still wait for the Bridge (R230, R289)? -/
def bridgeWaits (s : State) : Bool :=
  match s.replies with
  | .never :: _ => true
  | .later :: _ => true
  | .byte _ :: _ => false
  | [] => false

/-- OUT (R232): 7 bits of A go out, A stays. -/
def output (port : Byte) (s : State) : Host.Outcome State Fault Refusal :=
  done 2 { s with io := s.io ++ [.write port (s.a &&& 0x7F)] }

/-- OUT port (0xD3): R232. -/
def execOutPort (port : Byte) (s : State) : Host.Outcome State Fault Refusal :=
  output port s

/-- IN port (0xDB): R231. -/
def execInPort (port : Byte) (s : State) : Host.Outcome State Fault Refusal :=
  input port s

end Sys2Proof.Machine
end

