-- ==== Sys2Proof/Machine/IncDec.lean ====
section
/-! DEFINITION. The meanings of INR, DCR, INX, DCX (41_increment_decrement.md, R120 to R127). -/

namespace Sys2Proof.Machine

/-- The flags of INR and DCR: S, Z, P from the result, AC from AUX, CY untouched (R120, R121). -/
def stepFlags (op v r : Byte) (s : State) : Byte := Flags.setAC (Flags.szp s.flags r) (s.aux op v 1 false)

/-- INR (R122, R123): 8 bits, wrapping. -/
def increment (op : Byte) (x : Loc) (s : State) : Host.Outcome State Fault Refusal :=
  let v := s.loc x
  done 1 { s.setLoc x (v + 1) with flags := stepFlags op v (v + 1) s }

/-- DCR (R124, R125): 8 bits, wrapping. -/
def decrement (op : Byte) (x : Loc) (s : State) : Host.Outcome State Fault Refusal :=
  let v := s.loc x
  done 1 { s.setLoc x (v - 1) with flags := stepFlags op v (v - 1) s }

/-- INX B (0x03): R126. -/
def execInxB (s : State) : Host.Outcome State Fault Refusal :=
  done 1 (s.setPair .bc (s.pair .bc + 1))

/-- INR B (0x04): R122. -/
def execInrB (s : State) : Host.Outcome State Fault Refusal :=
  increment 0x04 (.reg .b) s

/-- DCR B (0x05): R124. -/
def execDcrB (s : State) : Host.Outcome State Fault Refusal :=
  decrement 0x05 (.reg .b) s

/-- DCX B (0x0B): R127. -/
def execDcxB (s : State) : Host.Outcome State Fault Refusal :=
  done 1 (s.setPair .bc (s.pair .bc - 1))

/-- INR C (0x0C): R122. -/
def execInrC (s : State) : Host.Outcome State Fault Refusal :=
  increment 0x0C (.reg .c) s

/-- DCR C (0x0D): R124. -/
def execDcrC (s : State) : Host.Outcome State Fault Refusal :=
  decrement 0x0D (.reg .c) s

/-- INX D (0x13): R126. -/
def execInxD (s : State) : Host.Outcome State Fault Refusal :=
  done 1 (s.setPair .de (s.pair .de + 1))

/-- INR D (0x14): R122. -/
def execInrD (s : State) : Host.Outcome State Fault Refusal :=
  increment 0x14 (.reg .d) s

/-- DCR D (0x15): R124. -/
def execDcrD (s : State) : Host.Outcome State Fault Refusal :=
  decrement 0x15 (.reg .d) s

/-- DCX D (0x1B): R127. -/
def execDcxD (s : State) : Host.Outcome State Fault Refusal :=
  done 1 (s.setPair .de (s.pair .de - 1))

/-- INR E (0x1C): R122. -/
def execInrE (s : State) : Host.Outcome State Fault Refusal :=
  increment 0x1C (.reg .e) s

/-- DCR E (0x1D): R124. -/
def execDcrE (s : State) : Host.Outcome State Fault Refusal :=
  decrement 0x1D (.reg .e) s

/-- INX H (0x23): R126. -/
def execInxH (s : State) : Host.Outcome State Fault Refusal :=
  done 1 (s.setPair .hl (s.pair .hl + 1))

/-- INR H (0x24): R122. -/
def execInrH (s : State) : Host.Outcome State Fault Refusal :=
  increment 0x24 (.reg .h) s

/-- DCR H (0x25): R124. -/
def execDcrH (s : State) : Host.Outcome State Fault Refusal :=
  decrement 0x25 (.reg .h) s

/-- DCX H (0x2B): R127. -/
def execDcxH (s : State) : Host.Outcome State Fault Refusal :=
  done 1 (s.setPair .hl (s.pair .hl - 1))

/-- INR L (0x2C): R122. -/
def execInrL (s : State) : Host.Outcome State Fault Refusal :=
  increment 0x2C (.reg .l) s

/-- DCR L (0x2D): R124. -/
def execDcrL (s : State) : Host.Outcome State Fault Refusal :=
  decrement 0x2D (.reg .l) s

/-- INX SP (0x33): R126. -/
def execInxSp (s : State) : Host.Outcome State Fault Refusal :=
  done 1 (s.setPair .sp (s.pair .sp + 1))

/-- INR M (0x34): R123. -/
def execInrM (s : State) : Host.Outcome State Fault Refusal :=
  increment 0x34 .m s

/-- DCR M (0x35): R125. -/
def execDcrM (s : State) : Host.Outcome State Fault Refusal :=
  decrement 0x35 .m s

/-- DCX SP (0x3B): R127. -/
def execDcxSp (s : State) : Host.Outcome State Fault Refusal :=
  done 1 (s.setPair .sp (s.pair .sp - 1))

/-- INR A (0x3C): R122. -/
def execInrA (s : State) : Host.Outcome State Fault Refusal :=
  increment 0x3C (.reg .a) s

/-- DCR A (0x3D): R124. -/
def execDcrA (s : State) : Host.Outcome State Fault Refusal :=
  decrement 0x3D (.reg .a) s

end Sys2Proof.Machine
end

