-- ==== Sys2Proof/Machine/Logical.lean ====
section
/-! DEFINITION. The meanings of the logical, complement, carry and rotate instructions (44_logical.md, R160 to R176). -/

namespace Sys2Proof.Machine

/-- A bitwise result into A: S, Z, P from it, CY and AC cleared (R160). -/
def logicResult (r : Byte) (len : Nat) (s : State) : Host.Outcome State Fault Refusal :=
  done len { s with a := r, flags := Flags.result s.flags r false false }

/-- ANA, ANI (R161, R162, R167). -/
def andA (y : Byte) (len : Nat) (s : State) : Host.Outcome State Fault Refusal := logicResult (s.a &&& y) len s

/-- XRA, XRI (R163, R164, R168). -/
def xorA (y : Byte) (len : Nat) (s : State) : Host.Outcome State Fault Refusal := logicResult (s.a ^^^ y) len s

/-- ORA, ORI (R165, R166, R169). -/
def orA (y : Byte) (len : Nat) (s : State) : Host.Outcome State Fault Refusal := logicResult (s.a ||| y) len s

/-- A one bit toward bit 7, `enter` into bit 0, CY from the bit shifted out (R173, R175). -/
def rotateLeft (enter : Bool) (s : State) : Host.Outcome State Fault Refusal :=
  done 1 { s with a := (s.a <<< 1) ||| (if enter then 0x01 else 0x00), flags := Flags.setCY s.flags (s.a.getLsbD 7) }

/-- A one bit toward bit 0, `enter` into bit 7, CY from the bit shifted out (R174, R176). -/
def rotateRight (enter : Bool) (s : State) : Host.Outcome State Fault Refusal :=
  done 1 { s with a := (s.a >>> 1) ||| (if enter then 0x80 else 0x00), flags := Flags.setCY s.flags (s.a.getLsbD 0) }

/-- RLC (0x07): R173. -/
def execRlc (s : State) : Host.Outcome State Fault Refusal :=
  rotateLeft (s.a.getLsbD 7) s

/-- RRC (0x0F): R174. -/
def execRrc (s : State) : Host.Outcome State Fault Refusal :=
  rotateRight (s.a.getLsbD 0) s

/-- RAL (0x17): R175. -/
def execRal (s : State) : Host.Outcome State Fault Refusal :=
  rotateLeft s.cy s

/-- RAR (0x1F): R176. -/
def execRar (s : State) : Host.Outcome State Fault Refusal :=
  rotateRight s.cy s

/-- CMA (0x2F): R170. -/
def execCma (s : State) : Host.Outcome State Fault Refusal :=
  done 1 { s with a := ~~~s.a }

/-- STC (0x37): R172. -/
def execStc (s : State) : Host.Outcome State Fault Refusal :=
  done 1 { s with flags := Flags.setCY s.flags true }

/-- CMC (0x3F): R171. -/
def execCmc (s : State) : Host.Outcome State Fault Refusal :=
  done 1 { s with flags := Flags.setCY s.flags !s.cy }

/-- ANA B (0xA0): R161. -/
def execAnaB (s : State) : Host.Outcome State Fault Refusal :=
  andA (s.loc (.reg .b)) 1 s

/-- ANA C (0xA1): R161. -/
def execAnaC (s : State) : Host.Outcome State Fault Refusal :=
  andA (s.loc (.reg .c)) 1 s

/-- ANA D (0xA2): R161. -/
def execAnaD (s : State) : Host.Outcome State Fault Refusal :=
  andA (s.loc (.reg .d)) 1 s

/-- ANA E (0xA3): R161. -/
def execAnaE (s : State) : Host.Outcome State Fault Refusal :=
  andA (s.loc (.reg .e)) 1 s

/-- ANA H (0xA4): R161. -/
def execAnaH (s : State) : Host.Outcome State Fault Refusal :=
  andA (s.loc (.reg .h)) 1 s

/-- ANA L (0xA5): R161. -/
def execAnaL (s : State) : Host.Outcome State Fault Refusal :=
  andA (s.loc (.reg .l)) 1 s

/-- ANA M (0xA6): R162. -/
def execAnaM (s : State) : Host.Outcome State Fault Refusal :=
  andA (s.loc .m) 1 s

/-- ANA A (0xA7): R161. -/
def execAnaA (s : State) : Host.Outcome State Fault Refusal :=
  andA (s.loc (.reg .a)) 1 s

/-- XRA B (0xA8): R163. -/
def execXraB (s : State) : Host.Outcome State Fault Refusal :=
  xorA (s.loc (.reg .b)) 1 s

/-- XRA C (0xA9): R163. -/
def execXraC (s : State) : Host.Outcome State Fault Refusal :=
  xorA (s.loc (.reg .c)) 1 s

/-- XRA D (0xAA): R163. -/
def execXraD (s : State) : Host.Outcome State Fault Refusal :=
  xorA (s.loc (.reg .d)) 1 s

/-- XRA E (0xAB): R163. -/
def execXraE (s : State) : Host.Outcome State Fault Refusal :=
  xorA (s.loc (.reg .e)) 1 s

/-- XRA H (0xAC): R163. -/
def execXraH (s : State) : Host.Outcome State Fault Refusal :=
  xorA (s.loc (.reg .h)) 1 s

/-- XRA L (0xAD): R163. -/
def execXraL (s : State) : Host.Outcome State Fault Refusal :=
  xorA (s.loc (.reg .l)) 1 s

/-- XRA M (0xAE): R164. -/
def execXraM (s : State) : Host.Outcome State Fault Refusal :=
  xorA (s.loc .m) 1 s

/-- XRA A (0xAF): R163. -/
def execXraA (s : State) : Host.Outcome State Fault Refusal :=
  xorA (s.loc (.reg .a)) 1 s

/-- ORA B (0xB0): R165. -/
def execOraB (s : State) : Host.Outcome State Fault Refusal :=
  orA (s.loc (.reg .b)) 1 s

/-- ORA C (0xB1): R165. -/
def execOraC (s : State) : Host.Outcome State Fault Refusal :=
  orA (s.loc (.reg .c)) 1 s

/-- ORA D (0xB2): R165. -/
def execOraD (s : State) : Host.Outcome State Fault Refusal :=
  orA (s.loc (.reg .d)) 1 s

/-- ORA E (0xB3): R165. -/
def execOraE (s : State) : Host.Outcome State Fault Refusal :=
  orA (s.loc (.reg .e)) 1 s

/-- ORA H (0xB4): R165. -/
def execOraH (s : State) : Host.Outcome State Fault Refusal :=
  orA (s.loc (.reg .h)) 1 s

/-- ORA L (0xB5): R165. -/
def execOraL (s : State) : Host.Outcome State Fault Refusal :=
  orA (s.loc (.reg .l)) 1 s

/-- ORA M (0xB6): R166. -/
def execOraM (s : State) : Host.Outcome State Fault Refusal :=
  orA (s.loc .m) 1 s

/-- ORA A (0xB7): R165. -/
def execOraA (s : State) : Host.Outcome State Fault Refusal :=
  orA (s.loc (.reg .a)) 1 s

/-- ANI d8 (0xE6): R167. -/
def execAni (d8 : Byte) (s : State) : Host.Outcome State Fault Refusal :=
  andA d8 2 s

/-- XRI d8 (0xEE): R168. -/
def execXri (d8 : Byte) (s : State) : Host.Outcome State Fault Refusal :=
  xorA d8 2 s

/-- ORI d8 (0xF6): R169. -/
def execOri (d8 : Byte) (s : State) : Host.Outcome State Fault Refusal :=
  orA d8 2 s

end Sys2Proof.Machine
end

