-- ==== Sys2Proof/Machine/Misc.lean ====
section
/-! DEFINITION. The meanings of DI, EI, the two no-ops and the undefined opcode
(48_interrupt_control_and_misc.md, R240 to R244). -/

namespace Sys2Proof.Machine

/-- NOP (0x00): R242. -/
def execNop (s : State) : Host.Outcome State Fault Refusal :=
  done 1 s

/-- NOP (alias 0x08) (0x08): R243. -/
def execNop08 (s : State) : Host.Outcome State Fault Refusal :=
  done 1 s

/-- Undefined opcode (any byte outside IMPLEMENTED): R244. -/
def execUndefined (op : Byte) (s : State) : Host.Outcome State Fault Refusal :=
  raise s (.undefinedOpcode s.pc op)

/-- DI (0xF3): R240. -/
def execDi (s : State) : Host.Outcome State Fault Refusal :=
  done 1 { s with inte := false }

/-- EI (0xFB): R241. -/
def execEi (s : State) : Host.Outcome State Fault Refusal :=
  done 1 { s with inte := true }

end Sys2Proof.Machine
end

