-- ==== Sys2Proof/Machine/Stack.lean ====
section
/-! DEFINITION. The meanings of PUSH and POP (46_stack.md, R220 to R224). -/

namespace Sys2Proof.Machine

/-- PUSH of a 16-bit value (R221, R222). -/
def pushValue (w : Word) (s : State) : Host.Outcome State Fault Refusal :=
  takeHalt s ((pushWord s w).map (fun t => t.advance 1))

/-- POP of BC, DE or HL (R223). -/
def popPair (p : Pair) (s : State) : Host.Outcome State Fault Refusal :=
  takeHalt s ((popWord s).map (fun q => (q.2.setPair p q.1).advance 1))

/-- POP of A and FLAGS: the reserved bits are kept (R224). -/
def popAccFlags (s : State) : Host.Outcome State Fault Refusal :=
  takeHalt s ((popWord s).map (fun q =>
    { q.2 with
      a := hiByte q.1
      flags := (s.flags &&& reservedMask) ||| (loByte q.1 &&& flagMask) }.advance 1))

/-- POP B (0xC1): R223. -/
def execPopB (s : State) : Host.Outcome State Fault Refusal :=
  popPair .bc s

/-- PUSH B (0xC5): R221. -/
def execPushB (s : State) : Host.Outcome State Fault Refusal :=
  pushValue (s.pair .bc) s

/-- POP D (0xD1): R223. -/
def execPopD (s : State) : Host.Outcome State Fault Refusal :=
  popPair .de s

/-- PUSH D (0xD5): R221. -/
def execPushD (s : State) : Host.Outcome State Fault Refusal :=
  pushValue (s.pair .de) s

/-- POP H (0xE1): R223. -/
def execPopH (s : State) : Host.Outcome State Fault Refusal :=
  popPair .hl s

/-- PUSH H (0xE5): R221. -/
def execPushH (s : State) : Host.Outcome State Fault Refusal :=
  pushValue (s.pair .hl) s

/-- POP PSW (0xF1): R224. -/
def execPopPsw (s : State) : Host.Outcome State Fault Refusal :=
  popAccFlags s

/-- PUSH PSW (0xF5): R222. -/
def execPushPsw (s : State) : Host.Outcome State Fault Refusal :=
  pushValue (pair s.a s.flags) s

end Sys2Proof.Machine
end

