-- ==== Sys2Proof/Machine/Controller.lean ====
section
/-! DEFINITION. The Step (R85) and the Controller's loop around it (R272 to R277). -/

namespace Sys2Proof.Machine

/-- The part of the Step before execution (R85): bound check, opcode, IMPLEMENTED, operand bytes in ascending order. -/
def fetch (s : State) : Except Fault Instr :=
  if s.pc ≥ memSize then .error (.outOfBounds s.pc)
  else
    let op := s.mem.read s.pc
    if implemented s.cfg op then
      match shapeOf op with
      | .none => .ok (.undefined op)
      | .f1 i => .ok i
      | .f2 k =>
        match memRead s (s.pc + 1) with
        | .error f => .error f
        | .ok b1 => .ok (k b1)
      | .f3 k =>
        match memRead s (s.pc + 1) with
        | .error f => .error f
        | .ok b1 =>
          match memRead s (s.pc + 2) with
          | .error f => .error f
          | .ok b2 => .ok (k (pair b2 b1))
    else .ok (.undefined op)

/-- The Step (R85): fetch and execute, or the halt that the fetch raised. -/
def instructionStep (s : State) : Host.Outcome State Fault Refusal :=
  match fetch s with
  | .error f => raise s f
  | .ok i => exec i s

/-- Does this instruction leave the Step unfinished, waiting for the Bridge (R230)? -/
def waitsOn (i : Instr) (s : State) : Bool :=
  match i with
  | .inPort _ => bridgeWaits s
  | _ => false

/-- Is the Step at this state one that waits for the Bridge? -/
def State.waiting (s : State) : Bool :=
  match fetch s with
  | .error _ => false
  | .ok i => waitsOn i s

/-- Is pc in BP (R274)? 65536 is in no BP. -/
def State.atBreakpoint (s : State) : Bool := s.bp.any (fun x => x.toNat == s.pc)

/-- The checks after a Step, which use up the grant (R268, R272, R277): halted, else breakpoint, else, if `single`,
single-step. -/
def State.afterStep (t : State) (single : Bool) : State :=
  match t.run with
  | .halted _ => { t with grant := false }
  | _ =>
    if t.atBreakpoint then { t with run := .breakpointHit (BitVec.ofNat 16 t.pc), grant := false }
    else if single then { t with run := .singleStepWait, grant := false }
    else { t with grant := false }

/-- Does the core execute an instruction now: Running, or a wait state with a grant (R270, R277)? -/
def State.active (s : State) : Bool :=
  match s.run with
  | .running => true
  | .singleStepWait => s.grant
  | .breakpointHit _ => s.grant
  | .idle => false
  | .halted _ => false

/-- Does the single-step check stop the core after the Step from here: always under a grant (R277), else as SSTEP says
(R275)? -/
def State.single (s : State) : Bool := s.run != .running || s.sstep

/-- One iteration of the loop (R272), or one granted instruction (R277). A Step that waits for the Bridge has not ended: no
check is made and no event taken (R230, R280). -/
def iteration (s : State) : Host.Outcome State Fault Refusal :=
  match instructionStep s with
  | .next t => if s.waiting then .next t else .next (t.afterStep s.single).boundary
  | .fault f => .fault f
  | .refused r => .refused r

/-- One step of the machine: an iteration while the core executes, otherwise one boundary with nothing executed (R270,
R276, R266). -/
def controllerStep (s : State) : Host.Outcome State Fault Refusal :=
  if s.active then iteration s else .next s.boundary

/-- `s` about to run the instruction in `bytes`: the core Running, the bytes at pc, the opcode byte not left out of
IMPLEMENTED. Where they would not fit below the end of memory, pc is 0 (log entry 11). -/
def placeInstr (s : State) (bytes : List Byte) : State :=
  let pc := if s.pc + bytes.length ≤ memSize then s.pc else 0
  { s with
    run := .running
    pc := pc
    mem := s.mem.load pc bytes
    cfg := { s.cfg with unimplemented := s.cfg.unimplemented.filter (fun op => op != bytes.headD 0) } }

end Sys2Proof.Machine
end

