-- ==== Sys2Proof/Machine/Step.lean ====
section
/-! DEFINITION. The machine's step, and a state about to run a given instruction. -/

namespace Sys2Proof.Machine

/-- One step of the machine (R270, R272, R277). -/
def step (s : State) : Host.Outcome State Fault Refusal := controllerStep s

/-- `s` with the instruction of a table word where `step` fetches its next instruction, and the core Running. It stands for
the host's `load_rom` and `start` (log entry 11). -/
def State.withFetchWord (s : State) (nbits w : Nat) : State := placeInstr s (tableBytes nbits w)

end Sys2Proof.Machine
end

