-- ==== Sys2Proof/Safety.lean ====
section
/-! DEFINITION. What holds of the machine at all times, and what counts as a run without a fault. -/

namespace Sys2Proof.Machine

/-- RUN is a wait state (R276). -/
def RunState.isWait : RunState → Bool
  | .singleStepWait => true
  | .breakpointHit _ => true
  | .idle => false
  | .running => false
  | .halted _ => false

/-- What every step keeps and what holds after construction: memory in its canonical form, pc in 0..65536 (R24), FLAGS's
reserved bits those of FLAGS_RESET (R27), BP a set of at most five addresses (R32), and a grant only in a wait state
(R277). -/
structure State.Inv (s : State) : Prop where
  mem_wf : s.mem.wf
  pc_le : s.pc ≤ memSize
  reserved : s.flags &&& reservedMask = s.cfg.flagsReset &&& reservedMask
  bp_wf : bpWf s.bp
  grant_waits : s.grant = true → s.run.isWait = true

/-- A fatal halt (R260): every halt but the one the host asks for. -/
def HaltReason.fatal : HaltReason → Bool
  | .undefinedOpcode _ _ => true
  | .outOfBounds _ => true
  | .romTooLarge _ => true
  | .requested => false

/-- The machine has not met a fatal halt. -/
def State.safe (s : State) : Bool :=
  match s.run with
  | .halted r => !r.fatal
  | .idle => true
  | .running => true
  | .singleStepWait => true
  | .breakpointHit _ => true

/-- `t` is reached from `s` by steps of the machine. -/
inductive Reaches : State → State → Prop where
  | refl (s : State) : Reaches s s
  | tail {s t u : State} (before : Reaches s t) (last : step t = .next u) : Reaches s u

end Sys2Proof.Machine
end

