-- ==== Sys2Proof/Certificates/Slice0/Obligations.lean ====
section
/-! DEFINITION. The statements for the provers, from the numbered rules of spec/. Each says what the machine does; the
completion of an instruction is the conclusion of its result statement. -/

namespace Sys2Proof.Claims

open Sys2Proof.Machine

/-- `exec` of `i` at `s` answers a next state, of which `P` holds. -/
def Runs (i : Instr) (s : State) (P : State → Prop) : Prop := ∃ t, exec i s = .next t ∧ P t

/-- `exec` of `i` at `s` takes the halt `r`: RUN is Halted(r) and nothing else changes (R265). -/
def Halts (i : Instr) (s : State) (r : HaltReason) : Prop := exec i s = .next { s with run := .halted r }

/-- A Step at `s` takes the halt `r`, and the Controller's step with it, at whose boundary the host's events are taken.
-/
def StepHalts (s : State) (r : HaltReason) : Prop :=
  instructionStep s = .next { s with run := .halted r } ∧
  (s.active = true → step s = .next ({ s with run := .halted r, grant := false } : State).boundary)

/-- The operand bytes of `i` would lie beyond address 65535: the fetch raises OutOfBounds(65536) (R72, R85). -/
def OperandsPastEnd (i : Instr) : Prop :=
  ∀ s : State, s.pc < 65536 → s.mem.read s.pc = opcodeByte i → implemented s.cfg (opcodeByte i) = true →
    65536 < s.pc + i.len → fetch s = .error (.outOfBounds 65536)

/-- The address of M (R102). -/
def addrM (s : State) : Nat := s.h.toNat * 256 + s.l.toNat

/-- The value of a register field's operand (R73). -/
def valueOf (s : State) : Loc → Byte
  | .reg r => s.reg r
  | .m => s.mem.read (addrM s)

/-- How many bits of a byte are 1. -/
def onesIn (v : Byte) : Nat := ((List.range 8).filter (fun k => v.getLsbD k)).length

/-- S, Z and P of `t` are those of the result `r` (R28). -/
def HasSZP (t : State) (r : Byte) : Prop :=
  t.sf = r.getLsbD 7 ∧ t.zf = decide (r = 0) ∧ t.pf = decide (onesIn r % 2 = 0)

/-- Every byte of memory outside `addrs` reads in `t` as in `s`. -/
def OnlyStored (s t : State) (addrs : List Nat) : Prop := ∀ addr, addr ∉ addrs → t.mem.read addr = s.mem.read addr

/-- From `s` to `t` only A, FLAGS and pc may differ, and of FLAGS only the five flags. -/
def OnlyAFlags (s t : State) (len : Nat) : Prop :=
  t = { s with a := t.a, flags := t.flags, pc := s.pc + len } ∧ t.flags &&& 0x2A = s.flags &&& 0x2A

/-- An addition of `y` and `cin` to A (R142, R144). -/
def AddsToA (i : Instr) (y : Byte) (cin : Bool) (len : Nat) (s : State) : Prop :=
  Runs i s fun t =>
    t.a.toNat = (s.a.toNat + y.toNat + cin.toNat) % 256 ∧
    HasSZP t t.a ∧ t.cy = decide (s.a.toNat + y.toNat + cin.toNat > 255) ∧ t.ac = s.aux (opcodeByte i) s.a y cin ∧
    OnlyAFlags s t len

/-- A subtraction of `y` and `cin` from A (R146, R148). -/
def SubtractsFromA (i : Instr) (y : Byte) (cin : Bool) (len : Nat) (s : State) : Prop :=
  Runs i s fun t =>
    (t.a.toNat : Int) = ((s.a.toNat : Int) - y.toNat - cin.toNat) % 256 ∧
    HasSZP t t.a ∧ t.cy = decide (s.a.toNat < y.toNat + cin.toNat) ∧ t.ac = s.aux (opcodeByte i) s.a y cin ∧
    OnlyAFlags s t len

/-- A comparison of `y` with A: the flags of the subtraction, A unchanged (R150). -/
def ComparesWithA (i : Instr) (y : Byte) (len : Nat) (s : State) : Prop :=
  Runs i s fun t => ∃ r : Byte,
    (r.toNat : Int) = ((s.a.toNat : Int) - y.toNat) % 256 ∧
    HasSZP t r ∧ t.cy = decide (s.a.toNat < y.toNat) ∧ t.ac = s.aux (opcodeByte i) s.a y false ∧
    t.a = s.a ∧ OnlyAFlags s t len

/-- A bitwise operation into A, bit by bit, with CY and AC cleared (R160). -/
def CombinesIntoA (i : Instr) (f : Bool → Bool → Bool) (y : Byte) (len : Nat) (s : State) : Prop :=
  Runs i s fun t =>
    (∀ k < 8, t.a.getLsbD k = f (s.a.getLsbD k) (y.getLsbD k)) ∧
    HasSZP t t.a ∧ t.cy = false ∧ t.ac = false ∧ OnlyAFlags s t len

/-- An alu operation in all its forms: register or M, and immediate, with the encoding of each. -/
def AluForms (k : Alu) (P : Instr → Byte → Nat → State → Prop) : Prop :=
  (∀ x s, P (Instr.aluOf k x) (valueOf s x) 1 s) ∧
  (∀ d8 s, P (Instr.aluImmOf k d8) d8 2 s) ∧
  (∀ x, encode (Instr.aluOf k x) = [BitVec.ofNat 8 (0x80 + 8 * k.code + x.code)]) ∧
  (∀ d8, encode (Instr.aluImmOf k d8) = [BitVec.ofNat 8 (0xC6 + 8 * k.code), d8] ∧
    OperandsPastEnd (Instr.aluImmOf k d8))

/-- The flags of INR and DCR on the value `v` with the result `r`: S, Z, P from `r`, AC from AUX, the rest as before. -/
def StepFlags (i : Instr) (v r : Byte) (s t : State) : Prop :=
  HasSZP t r ∧ t.ac = s.aux (opcodeByte i) v 1 false ∧ t.flags &&& 0x2B = s.flags &&& 0x2B

/-- INR and DCR: `r` replaces the operand `x`, with the flags of that; nothing else changes. -/
def StepsOperand (i : Instr) (x : Loc) (r : Byte) (s : State) : Prop :=
  match x with
  | .reg q => Runs i s fun t =>
    t.reg q = r ∧ t = { s.setReg q r with flags := t.flags, pc := s.pc + 1 } ∧ StepFlags i (s.reg q) r s t
  | .m => Runs i s fun t =>
    t.mem.read (addrM s) = r ∧ OnlyStored s t [addrM s] ∧
    t = { s with mem := t.mem, flags := t.flags, pc := s.pc + 1 } ∧ StepFlags i (s.mem.read (addrM s)) r s t

/-- The stack after a push of `w` from `s` (R182): two bytes below SP, and SP two lower. -/
def Pushed (s t : State) (w : Word) : Prop :=
  t.mem.read (s.sp.toNat - 1) = hiByte w ∧ t.mem.read (s.sp.toNat - 2) = loByte w ∧
  t.sp.toNat = s.sp.toNat - 2 ∧ OnlyStored s t [s.sp.toNat - 1, s.sp.toNat - 2]

/-- The word a pop from `s` reads (R182). -/
def popped (s : State) : Word := pair (s.mem.read (s.sp.toNat + 1)) (s.mem.read s.sp.toNat)

/-- `Target(t)` (R183). -/
def remapped (s : State) (t : Word) : Word := (s.cfg.remap.lookup t).getD t

/-- A call of `target` that returns after `len` bytes (R193, R211): completed, and the three ways it halts in the order
of its checks. -/
def CallsTarget (i : Instr) (target : Word) (len : Nat) (s : State) : Prop :=
  (s.pc + len < 65536 → 2 ≤ s.sp.toNat → Runs i s fun t =>
    Pushed s t (BitVec.ofNat 16 (s.pc + len)) ∧ t.pc = target.toNat ∧
    t = { s with mem := t.mem, sp := t.sp, pc := t.pc }) ∧
  (65536 ≤ s.pc + len → Halts i s (.outOfBounds (s.pc + len : Nat))) ∧
  (s.pc + len < 65536 → s.sp.toNat < 2 → Halts i s (.outOfBounds (-1)))

/-- A return that goes where `via` takes the popped word (R202). -/
def ReturnsVia (i : Instr) (via : Word → Word) (s : State) : Prop :=
  (s.sp.toNat < 65535 → exec i s = .next { s with
    sp := BitVec.ofNat 16 (s.sp.toNat + 2), pc := (via (popped s)).toNat }) ∧
  (s.sp.toNat = 65535 → Halts i s (.outOfBounds 65536))

/-- A condition, read off FLAGS (R181). -/
def Holds (s : State) : Cond → Prop
  | .nz => s.flags.getLsbD 6 = false
  | .z => s.flags.getLsbD 6 = true
  | .nc => s.flags.getLsbD 0 = false
  | .c => s.flags.getLsbD 0 = true
  | .po => s.flags.getLsbD 2 = false
  | .pe => s.flags.getLsbD 2 = true
  | .p => s.flags.getLsbD 7 = false
  | .m => s.flags.getLsbD 7 = true

/-- The 16-bit value PUSH stores and POP loads (R221 to R224). -/
def stackValue (s : State) : StackPair → Word
  | .bc => pair s.b s.c
  | .de => pair s.d s.e
  | .hl => pair s.h s.l
  | .psw => pair s.a s.flags

/-- `s` without what no instruction may see: RUN, BP, the grant, SSTEP, the queue of host events and INTE (R30, R288).
-/
def visible (s : State) : State :=
  { s with run := .idle, bp := [], grant := false, sstep := false, inbox := [], inte := false }

/-- The state of RUN after a Step that neither halted nor waits (R268, R272, R277). -/
def runAfter (s t : State) : RunState :=
  if ∃ x ∈ s.bp, x.toNat = t.pc then .breakpointHit (BitVec.ofNat 16 t.pc)
  else if s.run ≠ .running ∨ s.sstep = true then .singleStepWait
  else .running

/-- The flags an instruction writes, as a mask: the list of R27(a). -/
def flagsWritten : Instr → Byte
  | .inrB | .dcrB | .inrC | .dcrC | .inrD | .dcrD | .inrE | .dcrE | .inrH | .dcrH | .inrL | .dcrL | .inrM
  | .dcrM | .inrA | .dcrA => 0xD4
  | .rlc | .dadB | .rrc | .ral | .dadD | .rar | .dadH | .stc | .dadSp | .cmc => 0x01
  | .addB | .addC | .addD | .addE | .addH | .addL | .addM | .addA | .adcB | .adcC | .adcD | .adcE | .adcH
  | .adcL | .adcM | .adcA | .subB | .subC | .subD | .subE | .subH | .subL | .subM | .subA | .sbbB | .sbbC
  | .sbbD | .sbbE | .sbbH | .sbbL | .sbbM | .sbbA | .anaB | .anaC | .anaD | .anaE | .anaH | .anaL | .anaM
  | .anaA | .xraB | .xraC | .xraD | .xraE | .xraH | .xraL | .xraM | .xraA | .oraB | .oraC | .oraD | .oraE
  | .oraH | .oraL | .oraM | .oraA | .cmpB | .cmpC | .cmpD | .cmpE | .cmpH | .cmpL | .cmpM | .cmpA | .adi _
  | .aci _ | .sui _ | .sbi _ | .ani _ | .xri _ | .popPsw | .ori _ | .cpi _ => 0xD5
  | _ => 0x00

/-- The addresses an instruction stores to: the list of 95_test_vectors.md section 5, check 4, each address as its
meaning computes it. -/
def storedAt (i : Instr) (s : State) : List Nat :=
  match i with
  | .inrM | .dcrM | .mviM _ | .movMB | .movMC | .movMD | .movME | .movMH | .movML | .movMA => [s.mAddr]
  | .sta a16 => [a16.toNat]
  | .shld a16 => [a16.toNat, a16.toNat + 1]
  | .staxB => [(s.pair .bc).toNat]
  | .staxD => [(s.pair .de).toNat]
  | .xthl => [s.sp.toNat, s.sp.toNat + 1]
  | .pushB | .rst0 | .call _ | .rst1 | .pushD | .rst2 | .rst3 | .pushH | .rst4 | .rst5 | .pushPsw | .rst6
  | .rst7 => [s.sp.toNat - 1, s.sp.toNat - 2]
  | .cnz _ => if s.cond .nz then [s.sp.toNat - 1, s.sp.toNat - 2] else []
  | .cz _ => if s.cond .z then [s.sp.toNat - 1, s.sp.toNat - 2] else []
  | .cnc _ => if s.cond .nc then [s.sp.toNat - 1, s.sp.toNat - 2] else []
  | .cc _ => if s.cond .c then [s.sp.toNat - 1, s.sp.toNat - 2] else []
  | .cpo _ => if s.cond .po then [s.sp.toNat - 1, s.sp.toNat - 2] else []
  | .cpe _ => if s.cond .pe then [s.sp.toNat - 1, s.sp.toNat - 2] else []
  | .cp _ => if s.cond .p then [s.sp.toNat - 1, s.sp.toNat - 2] else []
  | .cm _ => if s.cond .m then [s.sp.toNat - 1, s.sp.toNat - 2] else []
  | _ => []

/-- The general registers an instruction writes (R22). -/
def destRegs : Instr → List Reg
  | .lxiB _ | .inxB | .dcxB | .popB => [.b, .c]
  | .inrB | .dcrB | .mviB _ | .movBB | .movBC | .movBD | .movBE | .movBH | .movBL | .movBM | .movBA => [.b]
  | .rlc | .ldaxB | .rrc | .ral | .ldaxD | .rar | .cma | .lda _ | .inrA | .dcrA | .mviA _ | .movAB | .movAC
  | .movAD | .movAE | .movAH | .movAL | .movAM | .movAA | .addB | .addC | .addD | .addE | .addH | .addL | .addM
  | .addA | .adcB | .adcC | .adcD | .adcE | .adcH | .adcL | .adcM | .adcA | .subB | .subC | .subD | .subE
  | .subH | .subL | .subM | .subA | .sbbB | .sbbC | .sbbD | .sbbE | .sbbH | .sbbL | .sbbM | .sbbA | .anaB
  | .anaC | .anaD | .anaE | .anaH | .anaL | .anaM | .anaA | .xraB | .xraC | .xraD | .xraE | .xraH | .xraL
  | .xraM | .xraA | .oraB | .oraC | .oraD | .oraE | .oraH | .oraL | .oraM | .oraA | .adi _ | .aci _ | .sui _
  | .inPort _ | .sbi _ | .ani _ | .xri _ | .popPsw | .ori _ => [.a]
  | .dadB | .dadD | .lxiH _ | .inxH | .dadH | .lhld _ | .dcxH | .dadSp | .popH | .xthl => [.h, .l]
  | .inrC | .dcrC | .mviC _ | .movCB | .movCC | .movCD | .movCE | .movCH | .movCL | .movCM | .movCA => [.c]
  | .lxiD _ | .inxD | .dcxD | .popD => [.d, .e]
  | .inrD | .dcrD | .mviD _ | .movDB | .movDC | .movDD | .movDE | .movDH | .movDL | .movDM | .movDA => [.d]
  | .inrE | .dcrE | .mviE _ | .movEB | .movEC | .movED | .movEE | .movEH | .movEL | .movEM | .movEA => [.e]
  | .inrH | .dcrH | .mviH _ | .movHB | .movHC | .movHD | .movHE | .movHH | .movHL | .movHM | .movHA => [.h]
  | .inrL | .dcrL | .mviL _ | .movLB | .movLC | .movLD | .movLE | .movLH | .movLL | .movLM | .movLA => [.l]
  | .xchg => [.d, .e, .h, .l]
  | _ => []

/-- What SP becomes where an instruction writes it (R23). -/
def spAfter (i : Instr) (s : State) : Word :=
  match i with
  | .lxiSp d16 => d16
  | .inxSp => s.sp + 1
  | .dcxSp => s.sp - 1
  | .sphl => s.pair .hl
  | .pushB | .rst0 | .call _ | .rst1 | .pushD | .rst2 | .rst3 | .pushH | .rst4 | .rst5 | .pushPsw | .rst6
  | .rst7 => s.sp - 2
  | .popB | .ret | .popD | .popH | .popPsw => s.sp + 2
  | .cnz _ => if s.cond .nz then s.sp - 2 else s.sp
  | .cz _ => if s.cond .z then s.sp - 2 else s.sp
  | .cnc _ => if s.cond .nc then s.sp - 2 else s.sp
  | .cc _ => if s.cond .c then s.sp - 2 else s.sp
  | .cpo _ => if s.cond .po then s.sp - 2 else s.sp
  | .cpe _ => if s.cond .pe then s.sp - 2 else s.sp
  | .cp _ => if s.cond .p then s.sp - 2 else s.sp
  | .cm _ => if s.cond .m then s.sp - 2 else s.sp
  | .rnz => if s.cond .nz then s.sp + 2 else s.sp
  | .rz => if s.cond .z then s.sp + 2 else s.sp
  | .rnc => if s.cond .nc then s.sp + 2 else s.sp
  | .rc => if s.cond .c then s.sp + 2 else s.sp
  | .rpo => if s.cond .po then s.sp + 2 else s.sp
  | .rpe => if s.cond .pe then s.sp + 2 else s.sp
  | .rp => if s.cond .p then s.sp + 2 else s.sp
  | .rm => if s.cond .m then s.sp + 2 else s.sp
  | _ => s.sp

/-- The instructions that can transfer control (45_control_transfer.md, and PCHL, R116). -/
def isTransfer : Instr → Bool
  | .rnz | .jnz _ | .jmp _ | .cnz _ | .rst0 | .rz | .ret | .jz _ | .cz _ | .call _ | .rst1 | .rnc | .jnc _
  | .cnc _ | .rst2 | .rc | .jc _ | .cc _ | .rst3 | .rpo | .jpo _ | .cpo _ | .rst4 | .rpe | .pchl | .jpe _
  | .cpe _ | .rst5 | .rp | .jp _ | .cp _ | .rst6 | .rm | .jm _ | .cm _ | .rst7 => true
  | _ => false

end Sys2Proof.Claims

open Sys2Proof Sys2Proof.Machine Sys2Proof.Claims

/-! ## Encoding -/

/-- R78: a word of each family, written out from the map, decodes to the instruction it stands for. -/
def Obligations.SampleWordsDecode : Prop :=
  decode [0x3E, 0x05] = .ok (.mviA 0x05, []) ∧ decode [0x3C] = .ok (.inrA, []) ∧
  decode [0x32, 0x00, 0x20] = .ok (.sta 0x2000, []) ∧ decode [0x39] = .ok (.dadSp, []) ∧
  decode [0x9E] = .ok (.sbbM, []) ∧ decode [0xEE, 0x81] = .ok (.xri 0x81, []) ∧
  decode [0xCA, 0x34, 0x12] = .ok (.jz 0x1234, []) ∧ decode [0xF5] = .ok (.pushPsw, []) ∧
  decode [0xDB, 0xFF] = .ok (.inPort 0xFF, []) ∧ decode [0xFF] = .ok (.rst7, []) ∧
  decode [0x08] = .ok (.nop08, []) ∧ decode [0x76] = .ok (.undefined 0x76, [])

/-- Decoding what the encoder writes gives the instruction back, with every operand value (R70, R72, R78). -/
def Obligations.EncodeThenDecode : Prop :=
  ∀ (i : Instr) (rest : List Byte), i.wf = true → decode (encode i ++ rest) = .ok (i, rest)

/-- The decoder reads nothing but well-formed instructions, each from the bytes the encoder writes for it (R77, R83). -/
def Obligations.DecodeThenEncode : Prop :=
  ∀ (bytes : List Byte) (i : Instr) (rest : List Byte), decode bytes = .ok (i, rest) →
    i.wf = true ∧ encode i ++ rest = bytes

/-- R71: in each quadrant the fields of the opcode byte name the instruction, and the fixed bytes of the table's last
row. -/
def Obligations.FieldLayoutNamesInstruction : Prop :=
  ∀ rest : List Byte,
  (∀ d s, decode (BitVec.ofNat 8 (0x40 + 8 * d.code + s.code) :: rest) = .ok (Instr.movOf d s, rest)) ∧
  (∀ k s, decode (BitVec.ofNat 8 (0x80 + 8 * k.code + s.code) :: rest) = .ok (Instr.aluOf k s, rest)) ∧
  (∀ d, decode (BitVec.ofNat 8 (0x04 + 8 * d.code) :: rest) = .ok (Instr.inrOf d, rest)) ∧
  (∀ d, decode (BitVec.ofNat 8 (0x05 + 8 * d.code) :: rest) = .ok (Instr.dcrOf d, rest)) ∧
  (∀ d d8, decode (BitVec.ofNat 8 (0x06 + 8 * d.code) :: d8 :: rest) = .ok (Instr.mviOf d d8, rest)) ∧
  (∀ p lo hi, decode (BitVec.ofNat 8 (0x01 + 16 * p.code) :: lo :: hi :: rest) =
    .ok (Instr.lxiOf p (pair hi lo), rest)) ∧
  (∀ p, decode (BitVec.ofNat 8 (0x03 + 16 * p.code) :: rest) = .ok (Instr.inxOf p, rest)) ∧
  (∀ p, decode (BitVec.ofNat 8 (0x09 + 16 * p.code) :: rest) = .ok (Instr.dadOf p, rest)) ∧
  (∀ p, decode (BitVec.ofNat 8 (0x0B + 16 * p.code) :: rest) = .ok (Instr.dcxOf p, rest)) ∧
  (∀ p, decode (BitVec.ofNat 8 (0x02 + 16 * p.code) :: rest) = .ok (Instr.staxOf p, rest)) ∧
  (∀ p, decode (BitVec.ofNat 8 (0x0A + 16 * p.code) :: rest) = .ok (Instr.ldaxOf p, rest)) ∧
  (∀ lo hi, decode (0x22 :: lo :: hi :: rest) = .ok (.shld (pair hi lo), rest) ∧
    decode (0x2A :: lo :: hi :: rest) = .ok (.lhld (pair hi lo), rest) ∧
    decode (0x32 :: lo :: hi :: rest) = .ok (.sta (pair hi lo), rest) ∧
    decode (0x3A :: lo :: hi :: rest) = .ok (.lda (pair hi lo), rest)) ∧
  (decode (0x07 :: rest) = .ok (.rlc, rest) ∧ decode (0x0F :: rest) = .ok (.rrc, rest) ∧
    decode (0x17 :: rest) = .ok (.ral, rest) ∧ decode (0x1F :: rest) = .ok (.rar, rest) ∧
    decode (0x27 :: rest) = .ok (.undefined 0x27, rest) ∧ decode (0x2F :: rest) = .ok (.cma, rest) ∧
    decode (0x37 :: rest) = .ok (.stc, rest) ∧ decode (0x3F :: rest) = .ok (.cmc, rest)) ∧
  (decode (0x00 :: rest) = .ok (.nop, rest) ∧ decode (0x08 :: rest) = .ok (.nop08, rest) ∧
    ∀ op ∈ ([0x10, 0x18, 0x20, 0x28, 0x30, 0x38] : List Byte), decode (op :: rest) = .ok (.undefined op, rest)) ∧
  (∀ cnd, decode (BitVec.ofNat 8 (0xC0 + 8 * cnd.code) :: rest) = .ok (Instr.retOf cnd, rest)) ∧
  (∀ cnd lo hi, decode (BitVec.ofNat 8 (0xC2 + 8 * cnd.code) :: lo :: hi :: rest) =
    .ok (Instr.jumpOf cnd (pair hi lo), rest)) ∧
  (∀ cnd lo hi, decode (BitVec.ofNat 8 (0xC4 + 8 * cnd.code) :: lo :: hi :: rest) =
    .ok (Instr.callOf cnd (pair hi lo), rest)) ∧
  (∀ k d8, decode (BitVec.ofNat 8 (0xC6 + 8 * k.code) :: d8 :: rest) = .ok (Instr.aluImmOf k d8, rest)) ∧
  (∀ n, decode (BitVec.ofNat 8 (0xC7 + 8 * n.val) :: rest) = .ok (Instr.rstOf n, rest)) ∧
  (∀ p, decode (BitVec.ofNat 8 (0xC1 + 16 * p.code) :: rest) = .ok (Instr.popOf p, rest)) ∧
  (∀ p, decode (BitVec.ofNat 8 (0xC5 + 16 * p.code) :: rest) = .ok (Instr.pushOf p, rest)) ∧
  (∀ lo hi, decode (0xC3 :: lo :: hi :: rest) = .ok (.jmp (pair hi lo), rest) ∧
    decode (0xCD :: lo :: hi :: rest) = .ok (.call (pair hi lo), rest)) ∧
  (∀ b, decode (0xD3 :: b :: rest) = .ok (.outPort b, rest) ∧ decode (0xDB :: b :: rest) = .ok (.inPort b, rest)) ∧
  decode (0xC9 :: rest) = .ok (.ret, rest) ∧ decode (0xE3 :: rest) = .ok (.xthl, rest) ∧
  decode (0xE9 :: rest) = .ok (.pchl, rest) ∧ decode (0xEB :: rest) = .ok (.xchg, rest) ∧
  decode (0xF3 :: rest) = .ok (.di, rest) ∧ decode (0xF9 :: rest) = .ok (.sphl, rest) ∧
  decode (0xFB :: rest) = .ok (.ei, rest)

/-- R70, R77, R81: with operand bytes behind it every opcode byte decodes, to an instruction with that byte, whose
length the byte alone fixes by the lists of R70; it is an undefined opcode for exactly the 13 bytes of R79, which is the
default IMPLEMENTED, the spec's own decisions D2, D3 and D4 (R6). -/
def Obligations.EveryByteDecodes : Prop :=
  ∀ op b1 b2 : Byte, ∃ i,
    decode [op, b1, b2] = .ok (i, [op, b1, b2].drop (1 + operandCount op)) ∧ opcodeByte i = op ∧
    ((∃ x, i = .undefined x) ↔ op ∈ ([0x10, 0x18, 0x20, 0x27, 0x28, 0x30, 0x38, 0x76, 0xCB, 0xD9, 0xDD, 0xED, 0xFD] :
      List Byte)) ∧
    operandCount op =
      if op ∈ ([0x06, 0x0E, 0x16, 0x1E, 0x26, 0x2E, 0x36, 0x3E, 0xC6, 0xCE, 0xD3, 0xD6, 0xDB, 0xDE, 0xE6, 0xEE, 0xF6,
        0xFE] : List Byte) then 1
      else if op ∈ ([0x01, 0x11, 0x21, 0x22, 0x2A, 0x31, 0x32, 0x3A, 0xC2, 0xC3, 0xC4, 0xCA, 0xCC, 0xCD, 0xD2, 0xD4, 0xDA,
        0xDC, 0xE2, 0xE4, 0xEA, 0xEC, 0xF2, 0xF4, 0xFA, 0xFC] : List Byte) then 2
      else 0

/-! ## The Step -/

/-- When the bytes at pc decode to `i` and its opcode is implemented (or is undefined), a step of the running core is
`exec` of `i`, then the checks and the boundary (R85, R272); under a grant it is the same with the checks of R277. A
Step that waits for the Bridge has neither (R230). The wait and the boundary's queue are the model's (log entries 5, 9).
-/
def Obligations.StepRunsDecodedInstruction : Prop :=
  ∀ (s : State) (bytes : List Byte) (i : Instr) (rest : List Byte),
    s.pc + bytes.length ≤ 65536 → (∀ k < bytes.length, bytes[k]? = some (s.mem.read (s.pc + k))) →
    decode bytes = .ok (i, rest) →
    (implemented s.cfg (bytes.headD 0) = true ∨ i = .undefined (bytes.headD 0)) →
    instructionStep s = exec i s ∧
    (s.run = .running → step s = match exec i s with
      | .next t => if waitsOn i s then .next t else .next (t.afterStep s.sstep).boundary
      | .fault f => .fault f
      | .refused r => .refused r) ∧
    (s.run.isWait = true → s.grant = true → step s = match exec i s with
      | .next t => if waitsOn i s then .next t else .next (t.afterStep true).boundary
      | .fault f => .fault f
      | .refused r => .refused r)

/-- R262: with pc past the end of memory the opcode fetch halts the core with OutOfBounds(pc); above 65536 no run gets
(log entry 12). -/
def Obligations.OpcodeFetchPastEndHalts : Prop :=
  ∀ s : State, 65536 ≤ s.pc → StepHalts s (.outOfBounds s.pc)

/-- R244, R261, R268: an opcode byte outside IMPLEMENTED halts the core with UndefinedOpcode(pc0, op), whatever lies
behind it; by default these are the 13 bytes of R79 (the spec's own decisions D2, D3 and D4, R6); and so does the
instruction `undefined` itself. That IMPLEMENTED is the 243 bytes less a list, and that all undefined bytes are one
constructor, are the model's choices (log entries 3 and 13). -/
def Obligations.UndefinedOpcodeHalts : Prop :=
  (∀ s : State, s.pc < 65536 → implemented s.cfg (s.mem.read s.pc) = false →
    StepHalts s (.undefinedOpcode s.pc (s.mem.read s.pc))) ∧
  (∀ (op : Byte) (s : State), exec (.undefined op) s = .next { s with run := .halted (.undefinedOpcode s.pc op) }) ∧
  (∀ (cfg : Config) (op : Byte), cfg.unimplemented = [] → (implemented cfg op = false ↔
    op ∈ ([0x10, 0x18, 0x20, 0x27, 0x28, 0x30, 0x38, 0x76, 0xCB, 0xD9, 0xDD, 0xED, 0xFD] : List Byte))) ∧
  (∀ (cfg : Config) (op : Byte), op ∈ cfg.unimplemented → implemented cfg op = false)

/-- R85: an implemented opcode whose operand bytes reach past address 65535 halts the core with OutOfBounds(65536) (that
OutOfBounds serves operand bytes too is the spec's own decision D6). -/
def Obligations.OperandFetchPastEndHalts : Prop :=
  ∀ s : State, s.pc < 65536 → implemented s.cfg (s.mem.read s.pc) = true →
    65536 ≤ s.pc + operandCount (s.mem.read s.pc) → StepHalts s (.outOfBounds 65536)

/-! ## All instructions -/

/-- No instruction and no step ends in a fault or a refusal of the model: a halt is a next state, which is the model's
choice (log entry 8). -/
def Obligations.EveryStepAnswersNext : Prop :=
  (∀ (i : Instr) (s : State), ∃ t, exec i s = .next t) ∧ ∀ s : State, ∃ t, step s = .next t

/-- R265: when an instruction or a whole Step raises, RUN is all that changes (the spec's own decision D8). -/
def Obligations.HaltChangesOnlyRun : Prop :=
  (∀ (i : Instr) (s t : State), exec i s = .next t → t.run ≠ s.run →
    ∃ f : Fault, t = { s with run := .halted f.reason }) ∧
  ∀ s t : State, instructionStep s = .next t → t.run ≠ s.run → ∃ f : Fault, t = { s with run := .halted f.reason }

/-- R27: an instruction writes only the flags listed for it, and none of them is a reserved bit; the reserved bits hold
FLAGS_RESET's for ever (the spec's own decision D11); PUSH PSW stores the whole byte. -/
def Obligations.FlagsChangeOnlyAsListed : Prop :=
  (∀ (i : Instr) (s t : State), exec i s = .next t →
    t.flags &&& ~~~(flagsWritten i) = s.flags &&& ~~~(flagsWritten i)) ∧
  (∀ i : Instr, flagsWritten i &&& 0x2A = 0) ∧
  (∀ s t : State, s.flags &&& 0x2A = s.cfg.flagsReset &&& 0x2A → step s = .next t →
    t.flags &&& 0x2A = t.cfg.flagsReset &&& 0x2A) ∧
  (∀ s : State, 2 ≤ s.sp.toNat → Runs .pushPsw s fun t => t.mem.read (s.sp.toNat - 2) = s.flags)

/-- The frame of memory: a byte that is not among the bytes an instruction stores to reads as before. -/
def Obligations.MemoryChangesOnlyAtStores : Prop :=
  ∀ (i : Instr) (s t : State), exec i s = .next t → OnlyStored s t (storedAt i s)

/-- The frame of the registers: only an instruction's destinations change; SP only as R23 says; INTE only by DI and EI;
the boundary to the Bridge, whose fields are the model's (log entries 5, 7), only by IN and OUT. -/
def Obligations.RegistersChangeOnlyAsListed : Prop :=
  ∀ (i : Instr) (s t : State), exec i s = .next t →
    (∀ r, r ∉ destRegs i → t.reg r = s.reg r) ∧
    (t.sp = s.sp ∨ t.sp = spAfter i s) ∧
    (i ≠ .di → i ≠ .ei → t.inte = s.inte) ∧
    ((∀ port, i ≠ .inPort port) → t.replies = s.replies ∧ ((∀ port, i ≠ .outPort port) → t.io = s.io))

/-- No instruction writes RUN but by halting, nor BP, the grant, SSTEP, SW, the host's queue or the parameters (R31,
R32, R288), and no step changes the parameters. The inputs and the parameters as fields are the model's (log entries 1
to 4, 6, 9, 10). -/
def Obligations.ControlStateIsUntouched : Prop :=
  (∀ (i : Instr) (s t : State), exec i s = .next t →
    (t.run = s.run ∨ ∃ r, t.run = .halted r) ∧ t.bp = s.bp ∧ t.grant = s.grant ∧ t.sstep = s.sstep ∧ t.sw = s.sw ∧
    t.inbox = s.inbox ∧ t.cfg = s.cfg) ∧
  ∀ s t : State, step s = .next t → t.cfg = s.cfg

/-- R288, R30: two states that differ only in RUN, BP, the grant, SSTEP, the host's queue and INTE stay so, whatever
instruction both execute: a program cannot tell them apart. SSTEP and the queue as fields are the model's (log entries
9, 10). -/
def Obligations.DebugStateIsInvisible : Prop :=
  ∀ (i : Instr) (s u t v : State), visible s = visible u → exec i s = .next t → exec i u = .next v →
    visible t = visible v

/-- R24, R25, R86: an instruction that does not transfer control ends at pc0 + LEN, one that does may go to a 16-bit
target, and pc stays where it was only for a halt or a wait. -/
def Obligations.PcAdvancesOrJumps : Prop :=
  ∀ (i : Instr) (s t : State), exec i s = .next t →
    t.pc = s.pc + i.len ∨
    (isTransfer i = true ∧ t.pc < 65536 ∧ ¬ ∃ r, t = { s with run := .halted r }) ∨
    (t.pc = s.pc ∧ ((∃ r, t = { s with run := .halted r }) ∨ waitsOn i s = true))

/-! ## Data transfer -/

/-- R101, R102, R103: MOV. -/
def Obligations.MovCopies : Prop :=
  (∀ r x s, exec (Instr.movOf (.reg r) x) s = .next { s.setReg r (valueOf s x) with pc := s.pc + 1 }) ∧
  (∀ r s, Runs (Instr.movOf .m (.reg r)) s fun t =>
    t.mem.read (addrM s) = s.reg r ∧ OnlyStored s t [addrM s] ∧ t = { s with mem := t.mem, pc := s.pc + 1 }) ∧
  (∀ d x, ¬ (d = .m ∧ x = .m) → encode (Instr.movOf d x) = [BitVec.ofNat 8 (0x40 + 8 * d.code + x.code)]) ∧
  decode [0x76] = .ok (.undefined 0x76, [])

/-- R104, R105, R106: MVI and LXI. -/
def Obligations.MviAndLxiLoadImmediate : Prop :=
  (∀ r d8 s, exec (Instr.mviOf (.reg r) d8) s = .next { s.setReg r d8 with pc := s.pc + 2 }) ∧
  (∀ d8 s, Runs (Instr.mviOf .m d8) s fun t =>
    t.mem.read (addrM s) = d8 ∧ OnlyStored s t [addrM s] ∧ t = { s with mem := t.mem, pc := s.pc + 2 }) ∧
  (∀ x d8, encode (Instr.mviOf x d8) = [BitVec.ofNat 8 (0x06 + 8 * x.code), d8] ∧ OperandsPastEnd (Instr.mviOf x d8)) ∧
  (∀ b1 b2 s,
    exec (.lxiB (pair b2 b1)) s = .next { s with b := b2, c := b1, pc := s.pc + 3 } ∧
    exec (.lxiD (pair b2 b1)) s = .next { s with d := b2, e := b1, pc := s.pc + 3 } ∧
    exec (.lxiH (pair b2 b1)) s = .next { s with h := b2, l := b1, pc := s.pc + 3 } ∧
    exec (.lxiSp (pair b2 b1)) s = .next { s with sp := pair b2 b1, pc := s.pc + 3 }) ∧
  (∀ p b1 b2, encode (Instr.lxiOf p (pair b2 b1)) = [BitVec.ofNat 8 (0x01 + 16 * p.code), b1, b2] ∧
    OperandsPastEnd (Instr.lxiOf p (pair b2 b1)))

/-- R107, R108, R111, R112: LDA, STA, LDAX, STAX. -/
def Obligations.AccumulatorLoadsAndStores : Prop :=
  (∀ a16 s, exec (.lda a16) s = .next { s with a := s.mem.read a16.toNat, pc := s.pc + 3 } ∧
    encode (.lda a16) = [0x3A, loByte a16, hiByte a16] ∧ OperandsPastEnd (.lda a16)) ∧
  (∀ a16 s, (Runs (.sta a16) s fun t =>
      t.mem.read a16.toNat = s.a ∧ OnlyStored s t [a16.toNat] ∧ t = { s with mem := t.mem, pc := s.pc + 3 }) ∧
    encode (.sta a16) = [0x32, loByte a16, hiByte a16] ∧ OperandsPastEnd (.sta a16)) ∧
  (∀ s, exec .ldaxB s = .next { s with a := s.mem.read (s.b.toNat * 256 + s.c.toNat), pc := s.pc + 1 } ∧
    exec .ldaxD s = .next { s with a := s.mem.read (s.d.toNat * 256 + s.e.toNat), pc := s.pc + 1 }) ∧
  (∀ s, (Runs .staxB s fun t =>
      t.mem.read (s.b.toNat * 256 + s.c.toNat) = s.a ∧ OnlyStored s t [s.b.toNat * 256 + s.c.toNat] ∧
      t = { s with mem := t.mem, pc := s.pc + 1 }) ∧
    Runs .staxD s fun t =>
      t.mem.read (s.d.toNat * 256 + s.e.toNat) = s.a ∧ OnlyStored s t [s.d.toNat * 256 + s.e.toNat] ∧
      t = { s with mem := t.mem, pc := s.pc + 1 }) ∧
  encode .ldaxB = [0x0A] ∧ encode .ldaxD = [0x1A] ∧ encode .staxB = [0x02] ∧ encode .staxD = [0x12]

/-- R109: LHLD. -/
def Obligations.LhldLoadsPair : Prop :=
  ∀ a16 s,
    (a16.toNat + 1 < 65536 → exec (.lhld a16) s = .next { s with
      l := s.mem.read a16.toNat, h := s.mem.read (a16.toNat + 1), pc := s.pc + 3 }) ∧
    (a16.toNat = 65535 → Halts (.lhld a16) s (.outOfBounds 65536)) ∧
    encode (.lhld a16) = [0x2A, loByte a16, hiByte a16] ∧ OperandsPastEnd (.lhld a16)

/-- R110: SHLD. -/
def Obligations.ShldStoresPair : Prop :=
  ∀ a16 s,
    (a16.toNat + 1 < 65536 → Runs (.shld a16) s fun t =>
      t.mem.read a16.toNat = s.l ∧ t.mem.read (a16.toNat + 1) = s.h ∧ OnlyStored s t [a16.toNat, a16.toNat + 1] ∧
      t = { s with mem := t.mem, pc := s.pc + 3 }) ∧
    (a16.toNat = 65535 → Halts (.shld a16) s (.outOfBounds 65536)) ∧
    encode (.shld a16) = [0x22, loByte a16, hiByte a16] ∧ OperandsPastEnd (.shld a16)

/-- R113, R115, R116: XCHG, SPHL, PCHL. -/
def Obligations.XchgSphlPchlMovePairs : Prop :=
  (∀ s, exec .xchg s = .next { s with d := s.h, e := s.l, h := s.d, l := s.e, pc := s.pc + 1 } ∧
    exec .sphl s = .next { s with sp := BitVec.ofNat 16 (s.h.toNat * 256 + s.l.toNat), pc := s.pc + 1 } ∧
    exec .pchl s = .next { s with pc := s.h.toNat * 256 + s.l.toNat }) ∧
  encode .xchg = [0xEB] ∧ encode .sphl = [0xF9] ∧ encode .pchl = [0xE9]

/-- R114: XTHL. -/
def Obligations.XthlExchangesStackTop : Prop :=
  ∀ s,
    (s.sp.toNat + 1 < 65536 → Runs .xthl s fun t =>
      t.l = s.mem.read s.sp.toNat ∧ t.h = s.mem.read (s.sp.toNat + 1) ∧
      t.mem.read s.sp.toNat = s.l ∧ t.mem.read (s.sp.toNat + 1) = s.h ∧ OnlyStored s t [s.sp.toNat, s.sp.toNat + 1] ∧
      t = { s with l := t.l, h := t.h, mem := t.mem, pc := s.pc + 1 }) ∧
    (s.sp.toNat = 65535 → Halts .xthl s (.outOfBounds 65536)) ∧
    encode .xthl = [0xE3]

/-! ## Increment, decrement, double add -/

/-- R122, R123: INR on a register and on M. -/
def Obligations.InrIncrements : Prop :=
  ∀ x s, (∃ r : Byte, r.toNat = ((valueOf s x).toNat + 1) % 256 ∧ StepsOperand (Instr.inrOf x) x r s) ∧
    encode (Instr.inrOf x) = [BitVec.ofNat 8 (0x04 + 8 * x.code)]

/-- R124, R125: DCR on a register and on M. -/
def Obligations.DcrDecrements : Prop :=
  ∀ x s, (∃ r : Byte, (r.toNat : Int) = ((valueOf s x).toNat - 1 : Int) % 256 ∧ StepsOperand (Instr.dcrOf x) x r s) ∧
    encode (Instr.dcrOf x) = [BitVec.ofNat 8 (0x05 + 8 * x.code)]

/-- R126, R127: INX and DCX wrap modulo 65536 and write no flag. -/
def Obligations.InxAndDcxWrap : Prop :=
  ∀ p s,
    (∃ w : Word, w.toNat = ((s.pair p).toNat + 1) % 65536 ∧
      exec (Instr.inxOf p) s = .next { s.setPair p w with pc := s.pc + 1 }) ∧
    (∃ w : Word, (w.toNat : Int) = ((s.pair p).toNat - 1 : Int) % 65536 ∧
      exec (Instr.dcxOf p) s = .next { s.setPair p w with pc := s.pc + 1 }) ∧
    encode (Instr.inxOf p) = [BitVec.ofNat 8 (0x03 + 16 * p.code)] ∧
    encode (Instr.dcxOf p) = [BitVec.ofNat 8 (0x0B + 16 * p.code)]

/-- R130: DAD adds a pair into HL; CY iff the sum exceeds 65535; no other flag. -/
def Obligations.DadAddsIntoHL : Prop :=
  ∀ p s,
    (Runs (Instr.dadOf p) s fun t =>
      t.h.toNat * 256 + t.l.toNat = (s.h.toNat * 256 + s.l.toNat + (s.pair p).toNat) % 65536 ∧
      t.cy = decide (s.h.toNat * 256 + s.l.toNat + (s.pair p).toNat > 65535) ∧
      t.flags &&& 0xFE = s.flags &&& 0xFE ∧ t = { s with h := t.h, l := t.l, flags := t.flags, pc := s.pc + 1 }) ∧
    encode (Instr.dadOf p) = [BitVec.ofNat 8 (0x09 + 16 * p.code)]

/-! ## Arithmetic -/

/-- R121, R141, R7: AUX is AUX_DEFAULT where the machine's parameter does not differ (log entry 1), with the four
formulas, which are the spec's own decision D9. -/
def Obligations.AuxiliaryCarryDefaults : Prop :=
  (∀ (s : State) (op x y : Byte) (cin : Bool),
    (∀ p ∈ s.cfg.auxExceptions, ¬ (p.op = op ∧ p.x = x ∧ p.y = y ∧ p.cin = cin)) →
    s.aux op x y cin = auxDefault op x y cin) ∧
  (∀ (x : Loc) (v : Byte),
    auxDefault (opcodeByte (Instr.inrOf x)) v 1 false = decide (v.toNat % 16 = 15) ∧
    auxDefault (opcodeByte (Instr.dcrOf x)) v 1 false = decide (v.toNat % 16 = 0)) ∧
  (∀ k ∈ ([.add, .adc] : List Alu), ∀ op, ((∃ z, op = opcodeByte (Instr.aluOf k z)) ∨
      ∃ d8, op = opcodeByte (Instr.aluImmOf k d8)) → ∀ (x y : Byte) (cin : Bool),
    auxDefault op x y cin = decide (x.toNat % 16 + y.toNat % 16 + cin.toNat > 15)) ∧
  (∀ k ∈ ([.sub, .sbb, .cmp] : List Alu), ∀ op, ((∃ z, op = opcodeByte (Instr.aluOf k z)) ∨
      ∃ d8, op = opcodeByte (Instr.aluImmOf k d8)) → ∀ (x y : Byte) (cin : Bool),
    auxDefault op x y cin = decide (x.toNat % 16 < y.toNat % 16 + cin.toNat))

/-- R142, R143, R152: ADD, ADI. -/
def Obligations.AddSumsIntoA : Prop := AluForms .add fun i y len s => AddsToA i y false len s

/-- R144, R145, R153: ADC, ACI. -/
def Obligations.AdcSumsWithCarry : Prop := AluForms .adc fun i y len s => AddsToA i y s.cy len s

/-- R146, R147, R154: SUB, SUI. -/
def Obligations.SubSubtractsFromA : Prop := AluForms .sub fun i y len s => SubtractsFromA i y false len s

/-- R148, R149, R155: SBB, SBI. -/
def Obligations.SbbSubtractsWithBorrow : Prop := AluForms .sbb fun i y len s => SubtractsFromA i y s.cy len s

/-- R150, R151, R156: CMP, CPI. -/
def Obligations.CmpComparesWithA : Prop := AluForms .cmp ComparesWithA

/-! ## Logical -/

/-- R161 to R169: ANA, XRA, ORA, ANI, XRI, ORI. -/
def Obligations.LogicCombinesIntoA : Prop :=
  (AluForms .ana fun i y len s => CombinesIntoA i and y len s) ∧
  (AluForms .xra fun i y len s => CombinesIntoA i xor y len s) ∧
  (AluForms .ora fun i y len s => CombinesIntoA i or y len s)

/-- R170, R171, R172: CMA, CMC, STC. -/
def Obligations.ComplementAndCarry : Prop :=
  (∀ s, Runs .cma s fun t => t.a.toNat = 255 - s.a.toNat ∧ t = { s with a := t.a, pc := s.pc + 1 }) ∧
  (∀ s, Runs .cmc s fun t => t.cy = (!s.cy) ∧ t.flags &&& 0xFE = s.flags &&& 0xFE ∧
    t = { s with flags := t.flags, pc := s.pc + 1 }) ∧
  (∀ s, Runs .stc s fun t => t.cy = true ∧ t.flags &&& 0xFE = s.flags &&& 0xFE ∧
    t = { s with flags := t.flags, pc := s.pc + 1 }) ∧
  encode .cma = [0x2F] ∧ encode .cmc = [0x3F] ∧ encode .stc = [0x37]

/-- R173 to R176: the rotates, bit by bit; CY is the bit shifted out, no other flag changes. -/
def Obligations.RotatesShiftOneBit : Prop :=
  (∀ s, Runs .rlc s fun t =>
    (∀ k < 7, t.a.getLsbD (k + 1) = s.a.getLsbD k) ∧ t.a.getLsbD 0 = s.a.getLsbD 7 ∧ t.cy = s.a.getLsbD 7 ∧
    t.flags &&& 0xFE = s.flags &&& 0xFE ∧ t = { s with a := t.a, flags := t.flags, pc := s.pc + 1 }) ∧
  (∀ s, Runs .rrc s fun t =>
    (∀ k < 7, t.a.getLsbD k = s.a.getLsbD (k + 1)) ∧ t.a.getLsbD 7 = s.a.getLsbD 0 ∧ t.cy = s.a.getLsbD 0 ∧
    t.flags &&& 0xFE = s.flags &&& 0xFE ∧ t = { s with a := t.a, flags := t.flags, pc := s.pc + 1 }) ∧
  (∀ s, Runs .ral s fun t =>
    (∀ k < 7, t.a.getLsbD (k + 1) = s.a.getLsbD k) ∧ t.a.getLsbD 0 = s.cy ∧ t.cy = s.a.getLsbD 7 ∧
    t.flags &&& 0xFE = s.flags &&& 0xFE ∧ t = { s with a := t.a, flags := t.flags, pc := s.pc + 1 }) ∧
  (∀ s, Runs .rar s fun t =>
    (∀ k < 7, t.a.getLsbD k = s.a.getLsbD (k + 1)) ∧ t.a.getLsbD 7 = s.cy ∧ t.cy = s.a.getLsbD 0 ∧
    t.flags &&& 0xFE = s.flags &&& 0xFE ∧ t = { s with a := t.a, flags := t.flags, pc := s.pc + 1 }) ∧
  encode .rlc = [0x07] ∧ encode .rrc = [0x0F] ∧ encode .ral = [0x17] ∧ encode .rar = [0x1F]

/-! ## Control transfer -/

/-- R184 to R192: JMP and the conditional jumps; JZ alone goes through REMAP, which is the spec's own decision D13
(R183). -/
def Obligations.JumpsGoToTarget : Prop :=
  (∀ a16 s, exec (.jmp a16) s = .next { s with pc := a16.toNat } ∧
    encode (.jmp a16) = [0xC3, loByte a16, hiByte a16] ∧ OperandsPastEnd (.jmp a16)) ∧
  ∀ cnd a16 s,
    (Holds s cnd → exec (Instr.jumpOf cnd a16) s = .next { s with
      pc := (if cnd = .z then remapped s a16 else a16).toNat }) ∧
    (¬ Holds s cnd → exec (Instr.jumpOf cnd a16) s = .next { s with pc := s.pc + 3 }) ∧
    encode (Instr.jumpOf cnd a16) = [BitVec.ofNat 8 (0xC2 + 8 * cnd.code), loByte a16, hiByte a16] ∧
    OperandsPastEnd (Instr.jumpOf cnd a16)

/-- R193: CALL. That a return address of 65536 halts is the spec's own decision D34. -/
def Obligations.CallPushesReturnAddress : Prop :=
  ∀ a16 s, CallsTarget (.call a16) a16 3 s ∧
    encode (.call a16) = [0xCD, loByte a16, hiByte a16] ∧ OperandsPastEnd (.call a16)

/-- R194 to R201: the conditional calls; taken, they are CALL, with its decision D34. -/
def Obligations.ConditionalCallsTestOneFlag : Prop :=
  ∀ cnd a16 s,
    (Holds s cnd → CallsTarget (Instr.callOf cnd a16) a16 3 s) ∧
    (¬ Holds s cnd → exec (Instr.callOf cnd a16) s = .next { s with pc := s.pc + 3 }) ∧
    encode (Instr.callOf cnd a16) = [BitVec.ofNat 8 (0xC4 + 8 * cnd.code), loByte a16, hiByte a16] ∧
    OperandsPastEnd (Instr.callOf cnd a16)

/-- R202: RET. That it goes through REMAP is the spec's own decision D13 (R183). -/
def Obligations.RetPopsIntoPc : Prop :=
  ∀ s, ReturnsVia .ret (remapped s) s ∧ encode .ret = [0xC9]

/-- R203 to R210: the conditional returns; RZ alone goes through REMAP, which is the spec's own decision D13 (R183). -/
def Obligations.ConditionalReturnsTestOneFlag : Prop :=
  ∀ cnd s,
    (Holds s cnd → ReturnsVia (Instr.retOf cnd) (fun w => if cnd = .z then remapped s w else w) s) ∧
    (¬ Holds s cnd → exec (Instr.retOf cnd) s = .next { s with pc := s.pc + 1 }) ∧
    encode (Instr.retOf cnd) = [BitVec.ofNat 8 (0xC0 + 8 * cnd.code)]

/-- R211: RST. Its push and its vectors are the spec's own decision D24, the halt at 65536 is D34. -/
def Obligations.RstCallsItsVector : Prop :=
  ∀ (n : Fin 8) s, CallsTarget (Instr.rstOf n) (BitVec.ofNat 16 (8 * n.val)) 1 s ∧
    encode (Instr.rstOf n) = [BitVec.ofNat 8 (0xC7 + 8 * n.val)]

/-! ## Stack -/

/-- R221, R222: PUSH. -/
def Obligations.PushStoresPair : Prop :=
  ∀ p s,
    (2 ≤ s.sp.toNat → Runs (Instr.pushOf p) s fun t =>
      Pushed s t (stackValue s p) ∧ t = { s with mem := t.mem, sp := t.sp, pc := s.pc + 1 }) ∧
    (s.sp.toNat < 2 → Halts (Instr.pushOf p) s (.outOfBounds (-1))) ∧
    encode (Instr.pushOf p) = [BitVec.ofNat 8 (0xC5 + 16 * p.code)]

/-- R223, R224: POP; POP PSW keeps the reserved bits of FLAGS, which is the spec's own decision D11. -/
def Obligations.PopLoadsPair : Prop :=
  (∀ s, s.sp.toNat < 65535 →
    exec .popB s = .next { s with
      b := hiByte (popped s), c := loByte (popped s), sp := BitVec.ofNat 16 (s.sp.toNat + 2), pc := s.pc + 1 } ∧
    exec .popD s = .next { s with
      d := hiByte (popped s), e := loByte (popped s), sp := BitVec.ofNat 16 (s.sp.toNat + 2), pc := s.pc + 1 } ∧
    exec .popH s = .next { s with
      h := hiByte (popped s), l := loByte (popped s), sp := BitVec.ofNat 16 (s.sp.toNat + 2), pc := s.pc + 1 } ∧
    exec .popPsw s = .next { s with
      a := hiByte (popped s), flags := (s.flags &&& 0x2A) ||| (loByte (popped s) &&& 0xD5),
      sp := BitVec.ofNat 16 (s.sp.toNat + 2), pc := s.pc + 1 }) ∧
  ∀ p s, (s.sp.toNat = 65535 → Halts (Instr.popOf p) s (.outOfBounds 65536)) ∧
    encode (Instr.popOf p) = [BitVec.ofNat 8 (0xC1 + 16 * p.code)]

/-- R220: a PUSH and then a POP of the same pair restore it and SP; all that is left of them is the two bytes below SP.
-/
def Obligations.PushThenPopRestores : Prop :=
  ∀ p (s t u : State), 2 ≤ s.sp.toNat → exec (Instr.pushOf p) s = .next t → exec (Instr.popOf p) t = .next u →
    u = { s with mem := t.mem, pc := s.pc + 2 } ∧ OnlyStored s u [s.sp.toNat - 1, s.sp.toNat - 2]

/-- R180: a CALL and then a RET come back behind the CALL, but for the remap quirk (decision D13), with SP as before;
all else that is left of them is the two bytes below SP. -/
def Obligations.CallThenRetReturns : Prop :=
  ∀ a16 (s t u : State), s.pc + 3 < 65536 → 2 ≤ s.sp.toNat → exec (.call a16) s = .next t → exec .ret t = .next u →
    u = { s with mem := t.mem, pc := (remapped s (BitVec.ofNat 16 (s.pc + 3))).toNat } ∧
    OnlyStored s u [s.sp.toNat - 1, s.sp.toNat - 2] ∧
    (s.cfg.remap = [] → u.pc = s.pc + 3)

/-! ## Input, output, interrupt control, no-ops -/

/-- R230, R231, R286 (decisions D14, D15, D32): on every port IN may wait, be it without end, and while the Bridge does
not answer nothing changes but that one wait is over, and no event of the host is taken; when it answers, A takes the
sense switches' high half from port 0xFF, elsewhere the byte answered, or a free value where the model lists nothing. An
answer ends this one IN, whichever its port, so the next may wait anew. The list of answers and waits, the free value,
SW as a field and the log of I/O events are the model's (log entries 5, 6, 7). -/
def Obligations.InReadsBridge : Prop :=
  (∀ v rest s, s.replies = .byte v :: rest → exec (.inPort 0xFF) s = .next { s with
    a := hiByte s.sw, replies := rest, io := s.io ++ [.read (s.pc + s.cfg.ioPcView.val) 0xFF (hiByte s.sw)],
    pc := s.pc + 2 }) ∧
  (∀ s, s.replies = [] → exec (.inPort 0xFF) s = .next { s with
    a := hiByte s.sw, io := s.io ++ [.read (s.pc + s.cfg.ioPcView.val) 0xFF (hiByte s.sw)], pc := s.pc + 2 }) ∧
  (∀ port v rest s, port ≠ 0xFF → s.replies = .byte v :: rest → exec (.inPort port) s = .next { s with
    a := v, replies := rest, io := s.io ++ [.read (s.pc + s.cfg.ioPcView.val) port v], pc := s.pc + 2 }) ∧
  (∀ port s, port ≠ 0xFF → s.replies = [] → ∃ v, exec (.inPort port) s = .next { s with
    a := v, io := s.io ++ [.read (s.pc + s.cfg.ioPcView.val) port v], pc := s.pc + 2 }) ∧
  (∀ port rest s, s.replies = .later :: rest → exec (.inPort port) s = .next { s with replies := rest } ∧
    (s.active = true → fetch s = .ok (.inPort port) → step s = .next { s with replies := rest })) ∧
  (∀ port rest s, s.replies = .never :: rest → exec (.inPort port) s = .next s ∧
    (s.active = true → fetch s = .ok (.inPort port) → step s = .next s)) ∧
  (∀ port, encode (.inPort port) = [0xDB, port] ∧ OperandsPastEnd (.inPort port))

/-- R232: OUT sends the low 7 bits of A and changes no register. The log of I/O events is the model's (log entry 7). -/
def Obligations.OutSendsSevenBits : Prop :=
  ∀ port s,
    (Runs (.outPort port) s fun t => ∃ v : Byte, v.toNat = s.a.toNat % 128 ∧
      t = { s with io := s.io ++ [.write port v], pc := s.pc + 2 }) ∧
    encode (.outPort port) = [0xD3, port] ∧ OperandsPastEnd (.outPort port)

/-- R240 to R243: DI, EI, and the two no-ops (that 0x00 is one is the spec's own inference, D4). -/
def Obligations.InterruptEnableAndNops : Prop :=
  (∀ s, exec .di s = .next { s with inte := false, pc := s.pc + 1 } ∧
    exec .ei s = .next { s with inte := true, pc := s.pc + 1 } ∧
    exec .nop s = .next { s with pc := s.pc + 1 } ∧ exec .nop08 s = .next { s with pc := s.pc + 1 }) ∧
  encode .di = [0xF3] ∧ encode .ei = [0xFB] ∧ encode .nop = [0x00] ∧ encode .nop08 = [0x08]

/-! ## The Controller and the host -/

/-- R271, R273, R280 (decisions D18, D21, D32; the queue of events with its delays is the model's, log entry 9): while
the core executes nothing a step is one boundary; at a boundary the events that have arrived are taken one at a time in
arrival order, each on the state the one before left; an event with a delay left comes one boundary nearer, and those
behind it stay; a grant ends the taking, so that it is used before the events behind it; what `start` and `stop` do in
each state of RUN. -/
def Obligations.StartAndStopSetRun : Prop :=
  (∀ (s : State) ev, s.active = false → s.grant = false → s.inbox = [(0, ev)] →
    step s = .next { hostEvent ev s with inbox := [] }) ∧
  (∀ (s : State), s.active = false → step s = .next s.boundary) ∧
  (∀ (s : State), s.inbox = [] → s.boundary = s) ∧
  (∀ (s : State) n ev rest, s.inbox = (n + 1, ev) :: rest → s.boundary = { s with inbox := (n, ev) :: rest }) ∧
  (∀ (s : State) ev rest, s.inbox = (0, ev) :: rest → (hostEvent ev s).grant = false →
    s.boundary = ({ hostEvent ev s with inbox := rest } : State).boundary) ∧
  (∀ (s : State) ev rest, s.inbox = (0, ev) :: rest → (hostEvent ev s).grant = true →
    s.boundary = { hostEvent ev s with inbox := rest }) ∧
  (∀ (s : State) rest, s.run.isWait = true → s.inbox = (0, .step) :: rest →
    s.boundary = { s with grant := true, inbox := rest } ∧ s.boundary.active = true) ∧
  (∀ s, (s.run = .idle ∨ s.run.isWait = true) → hostEvent .start s = { s with run := .running }) ∧
  (∀ s, (s.run = .running ∨ ∃ r, s.run = .halted r) → hostEvent .start s = s) ∧
  (∀ s, (∀ r, s.run ≠ .halted r) → hostEvent .stop s = { s with run := .halted .requested }) ∧
  (∀ s r, s.run = .halted r → hostEvent .stop s = s)

/-- R274, R275, R268 (decisions D19, D26, D20; the empty queue of the premise is the model's, log entry 9): after a Step
that neither halted nor waits, RUN is BreakpointHit(pc) if pc is in BP, else SingleStepWait if single-step mode is
engaged (or a grant was used), else Running. -/
def Obligations.BreakpointThenSingleStep : Prop :=
  ∀ s t, s.active = true → s.inbox = [] → s.waiting = false → instructionStep s = .next t → t.run = s.run →
    step s = .next { t with run := runAfter s t, grant := false }

/-- R277 (decision D18): `step` in a wait state lets exactly one instruction execute and the core waits again. That the
command stands in a queue with a delay, is taken in one step of the model and the granted instruction runs in the next,
is the model's (log entry 9). -/
def Obligations.AdvanceRunsOneInstruction : Prop :=
  (∀ s, s.run.isWait = true → hostEvent .step s = { s with grant := true }) ∧
  (∀ s, s.run.isWait = false → hostEvent .step s = s) ∧
  ∀ s t, s.run.isWait = true → s.grant = false → s.inbox = [(0, .step)] →
    instructionStep { s with grant := true, inbox := [] } = .next t → t.run = s.run →
    ({ s with grant := true, inbox := [] } : State).waiting = false →
    ∃ u v, step s = .next u ∧ u = { s with grant := true, inbox := [] } ∧ step u = .next v ∧
      v = { t with
        run := if ∃ x ∈ s.bp, x.toNat = t.pc then .breakpointHit (BitVec.ofNat 16 t.pc) else .singleStepWait
        grant := false } ∧ step v = .next v

/-- R266, R281: in Halted nothing but `reset` changes RUN, a register, pc or memory; `set_breakpoints` may change BP,
and the host's own SSTEP, SW and queue, which are fields of the model (log entries 10, 6, 9), may move. -/
def Obligations.HaltedIsTerminal : Prop :=
  ∀ s t r, s.run = .halted r → (∀ x ∈ s.inbox, x.2 ≠ .reset) → step s = .next t →
    t = { s with bp := t.bp, sstep := t.sstep, sw := t.sw, inbox := t.inbox }

/-- R278, R301 (decisions D16, D17; what it does not touch outside CORE is log entry 16): what `reset` leaves, in every
state of RUN. -/
def Obligations.ResetRestoresInitialState : Prop :=
  ∀ s, hostEvent .reset s = { s with
    a := 0, b := 0, c := 0, d := 0, e := 0, h := 0, l := 0, flags := s.cfg.flagsReset &&& 0x2A, sp := 0xFFFF, pc := 0,
    inte := false, run := .idle, grant := false, mem := [] } ∧
    ∀ addr, (hostEvent .reset s).mem.read addr = 0

/-- R279 (decision D27): `set_breakpoints` replaces the whole set, or refuses the request and changes nothing. -/
def Obligations.SetBreakpointsReplaces : Prop :=
  ∀ (addrs : List Int) (s : State),
    ((∀ x ∈ addrs, 0 ≤ x ∧ x < 65536) → addrs.dedup.length ≤ 5 →
      hostEvent (.setBreakpoints addrs) s = { s with bp := (hostEvent (.setBreakpoints addrs) s).bp } ∧
      ∀ w : Word, w ∈ (hostEvent (.setBreakpoints addrs) s).bp ↔ (w.toNat : Int) ∈ addrs) ∧
    (¬ ((∀ x ∈ addrs, 0 ≤ x ∧ x < 65536) ∧ addrs.dedup.length ≤ 5) → hostEvent (.setBreakpoints addrs) s = s)

/-- R302, R282 (decision D28), R264: `load_rom` in Idle copies the image from address 0, or halts with RomTooLarge;
elsewhere it does nothing. -/
def Obligations.LoadRomCopiesImage : Prop :=
  ∀ (bytes : List Byte) (s : State),
    (s.run = .idle → bytes.length ≤ 65536 →
      hostEvent (.loadRom bytes) s = { s with mem := (hostEvent (.loadRom bytes) s).mem } ∧
      (∀ k (h : k < bytes.length), (hostEvent (.loadRom bytes) s).mem.read k = bytes[k]) ∧
      ∀ k, bytes.length ≤ k → (hostEvent (.loadRom bytes) s).mem.read k = s.mem.read k) ∧
    (s.run = .idle → 65536 < bytes.length →
      hostEvent (.loadRom bytes) s = { s with run := .halted (.romTooLarge bytes.length) }) ∧
    (s.run ≠ .idle → hostEvent (.loadRom bytes) s = s)

/-! ## Headline -/

/-- Every step keeps the invariant, from every state that has it: memory in its canonical form, pc in 0..65536, the
reserved bits those of FLAGS_RESET, BP a set of at most five, a grant only in a wait state (R24, R27, R32, R34, R277).
-/
def Obligations.StepKeepsInvariant : Prop := ∀ s t : State, s.Inv → step s = .next t → t.Inv

/-- R38, R300 (decisions D10, D12, D17): the values after construction, and that the invariant holds there. -/
def Obligations.ConstructionState : Prop :=
  State.reset.Inv ∧ (∀ r, State.reset.reg r = 0x00) ∧ State.reset.sp = 0xFFFF ∧ State.reset.pc = 0 ∧
  State.reset.flags &&& 0xD5 = 0x00 ∧ State.reset.flags = 0x02 ∧ State.reset.inte = false ∧ State.reset.run = .idle ∧
  (∀ addr, State.reset.mem.read addr = 0x00) ∧ State.reset.bp = [] ∧ State.reset.grant = false
end

