-- ==== Sys2Proof/Laws/State.lean ====
section
/-! SUPPORT. What each update of the state does to each field, so that no later proof unfolds a record update. -/

namespace Sys2Proof.Machine

/-! The end of an instruction that does not write pc (R86). -/

@[simp] theorem State.advance_a (s : State) (len : Nat) : (s.advance len).a = s.a := rfl
@[simp] theorem State.advance_b (s : State) (len : Nat) : (s.advance len).b = s.b := rfl
@[simp] theorem State.advance_c (s : State) (len : Nat) : (s.advance len).c = s.c := rfl
@[simp] theorem State.advance_d (s : State) (len : Nat) : (s.advance len).d = s.d := rfl
@[simp] theorem State.advance_e (s : State) (len : Nat) : (s.advance len).e = s.e := rfl
@[simp] theorem State.advance_h (s : State) (len : Nat) : (s.advance len).h = s.h := rfl
@[simp] theorem State.advance_l (s : State) (len : Nat) : (s.advance len).l = s.l := rfl
@[simp] theorem State.advance_flags (s : State) (len : Nat) : (s.advance len).flags = s.flags := rfl
@[simp] theorem State.advance_sp (s : State) (len : Nat) : (s.advance len).sp = s.sp := rfl
@[simp] theorem State.advance_pc (s : State) (len : Nat) : (s.advance len).pc = s.pc + len := rfl
@[simp] theorem State.advance_inte (s : State) (len : Nat) : (s.advance len).inte = s.inte := rfl
@[simp] theorem State.advance_run (s : State) (len : Nat) : (s.advance len).run = s.run := rfl
@[simp] theorem State.advance_bp (s : State) (len : Nat) : (s.advance len).bp = s.bp := rfl
@[simp] theorem State.advance_grant (s : State) (len : Nat) : (s.advance len).grant = s.grant := rfl
@[simp] theorem State.advance_mem (s : State) (len : Nat) : (s.advance len).mem = s.mem := rfl
@[simp] theorem State.advance_sstep (s : State) (len : Nat) : (s.advance len).sstep = s.sstep := rfl
@[simp] theorem State.advance_sw (s : State) (len : Nat) : (s.advance len).sw = s.sw := rfl
@[simp] theorem State.advance_replies (s : State) (len : Nat) : (s.advance len).replies = s.replies := rfl
@[simp] theorem State.advance_io (s : State) (len : Nat) : (s.advance len).io = s.io := rfl
@[simp] theorem State.advance_inbox (s : State) (len : Nat) : (s.advance len).inbox = s.inbox := rfl
@[simp] theorem State.advance_cfg (s : State) (len : Nat) : (s.advance len).cfg = s.cfg := rfl

/-! A jump (R24). -/

@[simp] theorem State.jump_a (s : State) (t : Word) : (s.jump t).a = s.a := rfl
@[simp] theorem State.jump_b (s : State) (t : Word) : (s.jump t).b = s.b := rfl
@[simp] theorem State.jump_c (s : State) (t : Word) : (s.jump t).c = s.c := rfl
@[simp] theorem State.jump_d (s : State) (t : Word) : (s.jump t).d = s.d := rfl
@[simp] theorem State.jump_e (s : State) (t : Word) : (s.jump t).e = s.e := rfl
@[simp] theorem State.jump_h (s : State) (t : Word) : (s.jump t).h = s.h := rfl
@[simp] theorem State.jump_l (s : State) (t : Word) : (s.jump t).l = s.l := rfl
@[simp] theorem State.jump_flags (s : State) (t : Word) : (s.jump t).flags = s.flags := rfl
@[simp] theorem State.jump_sp (s : State) (t : Word) : (s.jump t).sp = s.sp := rfl
@[simp] theorem State.jump_pc (s : State) (t : Word) : (s.jump t).pc = t.toNat := rfl
@[simp] theorem State.jump_inte (s : State) (t : Word) : (s.jump t).inte = s.inte := rfl
@[simp] theorem State.jump_run (s : State) (t : Word) : (s.jump t).run = s.run := rfl
@[simp] theorem State.jump_bp (s : State) (t : Word) : (s.jump t).bp = s.bp := rfl
@[simp] theorem State.jump_grant (s : State) (t : Word) : (s.jump t).grant = s.grant := rfl
@[simp] theorem State.jump_mem (s : State) (t : Word) : (s.jump t).mem = s.mem := rfl
@[simp] theorem State.jump_sstep (s : State) (t : Word) : (s.jump t).sstep = s.sstep := rfl
@[simp] theorem State.jump_sw (s : State) (t : Word) : (s.jump t).sw = s.sw := rfl
@[simp] theorem State.jump_replies (s : State) (t : Word) : (s.jump t).replies = s.replies := rfl
@[simp] theorem State.jump_io (s : State) (t : Word) : (s.jump t).io = s.io := rfl
@[simp] theorem State.jump_inbox (s : State) (t : Word) : (s.jump t).inbox = s.inbox := rfl
@[simp] theorem State.jump_cfg (s : State) (t : Word) : (s.jump t).cfg = s.cfg := rfl

/-! Entering Halted (R265). -/

@[simp] theorem State.halt_a (s : State) (r : HaltReason) : (s.halt r).a = s.a := rfl
@[simp] theorem State.halt_b (s : State) (r : HaltReason) : (s.halt r).b = s.b := rfl
@[simp] theorem State.halt_c (s : State) (r : HaltReason) : (s.halt r).c = s.c := rfl
@[simp] theorem State.halt_d (s : State) (r : HaltReason) : (s.halt r).d = s.d := rfl
@[simp] theorem State.halt_e (s : State) (r : HaltReason) : (s.halt r).e = s.e := rfl
@[simp] theorem State.halt_h (s : State) (r : HaltReason) : (s.halt r).h = s.h := rfl
@[simp] theorem State.halt_l (s : State) (r : HaltReason) : (s.halt r).l = s.l := rfl
@[simp] theorem State.halt_flags (s : State) (r : HaltReason) : (s.halt r).flags = s.flags := rfl
@[simp] theorem State.halt_sp (s : State) (r : HaltReason) : (s.halt r).sp = s.sp := rfl
@[simp] theorem State.halt_pc (s : State) (r : HaltReason) : (s.halt r).pc = s.pc := rfl
@[simp] theorem State.halt_inte (s : State) (r : HaltReason) : (s.halt r).inte = s.inte := rfl
@[simp] theorem State.halt_run (s : State) (r : HaltReason) : (s.halt r).run = .halted r := rfl
@[simp] theorem State.halt_bp (s : State) (r : HaltReason) : (s.halt r).bp = s.bp := rfl
@[simp] theorem State.halt_grant (s : State) (r : HaltReason) : (s.halt r).grant = s.grant := rfl
@[simp] theorem State.halt_mem (s : State) (r : HaltReason) : (s.halt r).mem = s.mem := rfl
@[simp] theorem State.halt_sstep (s : State) (r : HaltReason) : (s.halt r).sstep = s.sstep := rfl
@[simp] theorem State.halt_sw (s : State) (r : HaltReason) : (s.halt r).sw = s.sw := rfl
@[simp] theorem State.halt_replies (s : State) (r : HaltReason) : (s.halt r).replies = s.replies := rfl
@[simp] theorem State.halt_io (s : State) (r : HaltReason) : (s.halt r).io = s.io := rfl
@[simp] theorem State.halt_inbox (s : State) (r : HaltReason) : (s.halt r).inbox = s.inbox := rfl
@[simp] theorem State.halt_cfg (s : State) (r : HaltReason) : (s.halt r).cfg = s.cfg := rfl

/-! Writing a register leaves everything else (R12). -/

@[simp] theorem State.setReg_flags (s : State) (r : Reg) (v : Byte) : (s.setReg r v).flags = s.flags := by cases r <;> rfl
@[simp] theorem State.setReg_sp (s : State) (r : Reg) (v : Byte) : (s.setReg r v).sp = s.sp := by cases r <;> rfl
@[simp] theorem State.setReg_pc (s : State) (r : Reg) (v : Byte) : (s.setReg r v).pc = s.pc := by cases r <;> rfl
@[simp] theorem State.setReg_inte (s : State) (r : Reg) (v : Byte) : (s.setReg r v).inte = s.inte := by cases r <;> rfl
@[simp] theorem State.setReg_run (s : State) (r : Reg) (v : Byte) : (s.setReg r v).run = s.run := by cases r <;> rfl
@[simp] theorem State.setReg_bp (s : State) (r : Reg) (v : Byte) : (s.setReg r v).bp = s.bp := by cases r <;> rfl
@[simp] theorem State.setReg_grant (s : State) (r : Reg) (v : Byte) : (s.setReg r v).grant = s.grant := by cases r <;> rfl
@[simp] theorem State.setReg_mem (s : State) (r : Reg) (v : Byte) : (s.setReg r v).mem = s.mem := by cases r <;> rfl
@[simp] theorem State.setReg_sstep (s : State) (r : Reg) (v : Byte) : (s.setReg r v).sstep = s.sstep := by cases r <;> rfl
@[simp] theorem State.setReg_sw (s : State) (r : Reg) (v : Byte) : (s.setReg r v).sw = s.sw := by cases r <;> rfl
@[simp] theorem State.setReg_replies (s : State) (r : Reg) (v : Byte) : (s.setReg r v).replies = s.replies := by cases r <;> rfl
@[simp] theorem State.setReg_io (s : State) (r : Reg) (v : Byte) : (s.setReg r v).io = s.io := by cases r <;> rfl
@[simp] theorem State.setReg_inbox (s : State) (r : Reg) (v : Byte) : (s.setReg r v).inbox = s.inbox := by cases r <;> rfl
@[simp] theorem State.setReg_cfg (s : State) (r : Reg) (v : Byte) : (s.setReg r v).cfg = s.cfg := by cases r <;> rfl

@[simp] theorem State.reg_setReg_self (s : State) (r : Reg) (v : Byte) : (s.setReg r v).reg r = v := by cases r <;> rfl

theorem State.reg_setReg_of_ne (s : State) {r q : Reg} (v : Byte) (h : q ≠ r) : (s.setReg r v).reg q = s.reg q := by
  cases r <;> cases q <;> first | rfl | exact absurd rfl h

/-! Writing a pair leaves everything but two registers or SP (R21). -/

@[simp] theorem State.setPair_flags (s : State) (p : Pair) (w : Word) : (s.setPair p w).flags = s.flags := by cases p <;> rfl
@[simp] theorem State.setPair_pc (s : State) (p : Pair) (w : Word) : (s.setPair p w).pc = s.pc := by cases p <;> rfl
@[simp] theorem State.setPair_inte (s : State) (p : Pair) (w : Word) : (s.setPair p w).inte = s.inte := by cases p <;> rfl
@[simp] theorem State.setPair_run (s : State) (p : Pair) (w : Word) : (s.setPair p w).run = s.run := by cases p <;> rfl
@[simp] theorem State.setPair_bp (s : State) (p : Pair) (w : Word) : (s.setPair p w).bp = s.bp := by cases p <;> rfl
@[simp] theorem State.setPair_grant (s : State) (p : Pair) (w : Word) : (s.setPair p w).grant = s.grant := by cases p <;> rfl
@[simp] theorem State.setPair_mem (s : State) (p : Pair) (w : Word) : (s.setPair p w).mem = s.mem := by cases p <;> rfl
@[simp] theorem State.setPair_sstep (s : State) (p : Pair) (w : Word) : (s.setPair p w).sstep = s.sstep := by cases p <;> rfl
@[simp] theorem State.setPair_sw (s : State) (p : Pair) (w : Word) : (s.setPair p w).sw = s.sw := by cases p <;> rfl
@[simp] theorem State.setPair_replies (s : State) (p : Pair) (w : Word) : (s.setPair p w).replies = s.replies := by cases p <;> rfl
@[simp] theorem State.setPair_io (s : State) (p : Pair) (w : Word) : (s.setPair p w).io = s.io := by cases p <;> rfl
@[simp] theorem State.setPair_inbox (s : State) (p : Pair) (w : Word) : (s.setPair p w).inbox = s.inbox := by cases p <;> rfl
@[simp] theorem State.setPair_cfg (s : State) (p : Pair) (w : Word) : (s.setPair p w).cfg = s.cfg := by cases p <;> rfl

/-! Writing what a register field names leaves everything but one register or one byte of memory (R73). -/

@[simp] theorem State.setLoc_flags (s : State) (x : Loc) (v : Byte) : (s.setLoc x v).flags = s.flags := by rcases x with r | _ <;> first | rfl | (cases r <;> rfl)
@[simp] theorem State.setLoc_sp (s : State) (x : Loc) (v : Byte) : (s.setLoc x v).sp = s.sp := by rcases x with r | _ <;> first | rfl | (cases r <;> rfl)
@[simp] theorem State.setLoc_pc (s : State) (x : Loc) (v : Byte) : (s.setLoc x v).pc = s.pc := by rcases x with r | _ <;> first | rfl | (cases r <;> rfl)
@[simp] theorem State.setLoc_inte (s : State) (x : Loc) (v : Byte) : (s.setLoc x v).inte = s.inte := by rcases x with r | _ <;> first | rfl | (cases r <;> rfl)
@[simp] theorem State.setLoc_run (s : State) (x : Loc) (v : Byte) : (s.setLoc x v).run = s.run := by rcases x with r | _ <;> first | rfl | (cases r <;> rfl)
@[simp] theorem State.setLoc_bp (s : State) (x : Loc) (v : Byte) : (s.setLoc x v).bp = s.bp := by rcases x with r | _ <;> first | rfl | (cases r <;> rfl)
@[simp] theorem State.setLoc_grant (s : State) (x : Loc) (v : Byte) : (s.setLoc x v).grant = s.grant := by rcases x with r | _ <;> first | rfl | (cases r <;> rfl)
@[simp] theorem State.setLoc_sstep (s : State) (x : Loc) (v : Byte) : (s.setLoc x v).sstep = s.sstep := by rcases x with r | _ <;> first | rfl | (cases r <;> rfl)
@[simp] theorem State.setLoc_sw (s : State) (x : Loc) (v : Byte) : (s.setLoc x v).sw = s.sw := by rcases x with r | _ <;> first | rfl | (cases r <;> rfl)
@[simp] theorem State.setLoc_replies (s : State) (x : Loc) (v : Byte) : (s.setLoc x v).replies = s.replies := by rcases x with r | _ <;> first | rfl | (cases r <;> rfl)
@[simp] theorem State.setLoc_io (s : State) (x : Loc) (v : Byte) : (s.setLoc x v).io = s.io := by rcases x with r | _ <;> first | rfl | (cases r <;> rfl)
@[simp] theorem State.setLoc_inbox (s : State) (x : Loc) (v : Byte) : (s.setLoc x v).inbox = s.inbox := by rcases x with r | _ <;> first | rfl | (cases r <;> rfl)
@[simp] theorem State.setLoc_cfg (s : State) (x : Loc) (v : Byte) : (s.setLoc x v).cfg = s.cfg := by rcases x with r | _ <;> first | rfl | (cases r <;> rfl)

@[simp] theorem State.setLoc_reg (s : State) (r : Reg) (v : Byte) : s.setLoc (.reg r) v = s.setReg r v := rfl
@[simp] theorem State.setLoc_m (s : State) (v : Byte) : s.setLoc .m v = { s with mem := s.mem.write s.mAddr v } := rfl
@[simp] theorem State.loc_reg (s : State) (r : Reg) : s.loc (.reg r) = s.reg r := rfl
@[simp] theorem State.loc_m (s : State) : s.loc .m = s.mem.read s.mAddr := rfl

/-! The checks after a Step write RUN and the grant only (R272, R277). -/

@[simp] theorem State.afterStep_a (s : State) (single : Bool) : (s.afterStep single).a = s.a := by
  unfold State.afterStep
  split <;> (try split) <;> (try split) <;> rfl
@[simp] theorem State.afterStep_b (s : State) (single : Bool) : (s.afterStep single).b = s.b := by
  unfold State.afterStep
  split <;> (try split) <;> (try split) <;> rfl
@[simp] theorem State.afterStep_c (s : State) (single : Bool) : (s.afterStep single).c = s.c := by
  unfold State.afterStep
  split <;> (try split) <;> (try split) <;> rfl
@[simp] theorem State.afterStep_d (s : State) (single : Bool) : (s.afterStep single).d = s.d := by
  unfold State.afterStep
  split <;> (try split) <;> (try split) <;> rfl
@[simp] theorem State.afterStep_e (s : State) (single : Bool) : (s.afterStep single).e = s.e := by
  unfold State.afterStep
  split <;> (try split) <;> (try split) <;> rfl
@[simp] theorem State.afterStep_h (s : State) (single : Bool) : (s.afterStep single).h = s.h := by
  unfold State.afterStep
  split <;> (try split) <;> (try split) <;> rfl
@[simp] theorem State.afterStep_l (s : State) (single : Bool) : (s.afterStep single).l = s.l := by
  unfold State.afterStep
  split <;> (try split) <;> (try split) <;> rfl
@[simp] theorem State.afterStep_flags (s : State) (single : Bool) : (s.afterStep single).flags = s.flags := by
  unfold State.afterStep
  split <;> (try split) <;> (try split) <;> rfl
@[simp] theorem State.afterStep_sp (s : State) (single : Bool) : (s.afterStep single).sp = s.sp := by
  unfold State.afterStep
  split <;> (try split) <;> (try split) <;> rfl
@[simp] theorem State.afterStep_pc (s : State) (single : Bool) : (s.afterStep single).pc = s.pc := by
  unfold State.afterStep
  split <;> (try split) <;> (try split) <;> rfl
@[simp] theorem State.afterStep_inte (s : State) (single : Bool) : (s.afterStep single).inte = s.inte := by
  unfold State.afterStep
  split <;> (try split) <;> (try split) <;> rfl
@[simp] theorem State.afterStep_bp (s : State) (single : Bool) : (s.afterStep single).bp = s.bp := by
  unfold State.afterStep
  split <;> (try split) <;> (try split) <;> rfl
@[simp] theorem State.afterStep_grant (s : State) (single : Bool) : (s.afterStep single).grant = false := by
  unfold State.afterStep
  split <;> (try split) <;> (try split) <;> rfl
@[simp] theorem State.afterStep_mem (s : State) (single : Bool) : (s.afterStep single).mem = s.mem := by
  unfold State.afterStep
  split <;> (try split) <;> (try split) <;> rfl
@[simp] theorem State.afterStep_sstep (s : State) (single : Bool) : (s.afterStep single).sstep = s.sstep := by
  unfold State.afterStep
  split <;> (try split) <;> (try split) <;> rfl
@[simp] theorem State.afterStep_sw (s : State) (single : Bool) : (s.afterStep single).sw = s.sw := by
  unfold State.afterStep
  split <;> (try split) <;> (try split) <;> rfl
@[simp] theorem State.afterStep_replies (s : State) (single : Bool) : (s.afterStep single).replies = s.replies := by
  unfold State.afterStep
  split <;> (try split) <;> (try split) <;> rfl
@[simp] theorem State.afterStep_io (s : State) (single : Bool) : (s.afterStep single).io = s.io := by
  unfold State.afterStep
  split <;> (try split) <;> (try split) <;> rfl
@[simp] theorem State.afterStep_inbox (s : State) (single : Bool) : (s.afterStep single).inbox = s.inbox := by
  unfold State.afterStep
  split <;> (try split) <;> (try split) <;> rfl
@[simp] theorem State.afterStep_cfg (s : State) (single : Bool) : (s.afterStep single).cfg = s.cfg := by
  unfold State.afterStep
  split <;> (try split) <;> (try split) <;> rfl

end Sys2Proof.Machine
end

