-- ==== Sys2Proof/Laws/Commands.lean ====
section
/-! SUPPORT. The breakpoint set in its canonical form (R32, R279). -/

namespace Sys2Proof.Machine

@[simp] theorem mem_insertAddr (set : List Word) (x w : Word) : w ∈ insertAddr set x ↔ w = x ∨ w ∈ set := by
  induction set with
  | nil => simp [insertAddr]
  | cons y rest ih =>
    unfold insertAddr
    split
    · simp
    · split
      · rename_i h; subst h; simp
      · rw [List.mem_cons, List.mem_cons, ih]; tauto

theorem pairwise_insertAddr {set : List Word} (x : Word) (h : set.Pairwise (fun x y => x.toNat < y.toNat)) :
    (insertAddr set x).Pairwise (fun x y => x.toNat < y.toNat) := by
  induction set with
  | nil => simp [insertAddr]
  | cons y rest ih =>
    rw [List.pairwise_cons] at h
    unfold insertAddr
    split
    · rename_i hlt
      refine List.pairwise_cons.mpr ⟨fun z hz => ?_, List.pairwise_cons.mpr h⟩
      rcases List.mem_cons.mp hz with rfl | hz
      · exact hlt
      · exact Nat.lt_trans hlt (h.1 z hz)
    · split
      · exact List.pairwise_cons.mpr h
      · rename_i h1 h2
        refine List.pairwise_cons.mpr ⟨fun z hz => ?_, ih h.2⟩
        rcases (mem_insertAddr rest x z).mp hz with rfl | hz
        · have : z.toNat ≠ y.toNat := fun e => h2 (BitVec.eq_of_toNat_eq e)
          omega
        · exact h.1 z hz

/-- The set of some addresses is in canonical form and holds exactly them. -/
theorem addrSet_spec (addrs : List Int) :
    (addrSet addrs).Pairwise (fun x y => x.toNat < y.toNat) ∧
    ∀ w, w ∈ addrSet addrs ↔ ∃ x ∈ addrs, w = BitVec.ofInt 16 x := by
  have go : ∀ (l : List Int) (acc : List Word), acc.Pairwise (fun x y => x.toNat < y.toNat) →
      (l.foldl (fun set x => insertAddr set (BitVec.ofInt 16 x)) acc).Pairwise (fun x y => x.toNat < y.toNat) ∧
      ∀ w, w ∈ l.foldl (fun set x => insertAddr set (BitVec.ofInt 16 x)) acc ↔
        w ∈ acc ∨ ∃ x ∈ l, w = BitVec.ofInt 16 x := by
    intro l
    induction l with
    | nil => intro acc h; simp [h]
    | cons x rest ih =>
      intro acc h
      refine ⟨(ih _ (pairwise_insertAddr _ h)).1, fun w => ?_⟩
      rw [List.foldl_cons, (ih _ (pairwise_insertAddr _ h)).2 w, mem_insertAddr]
      simp only [List.exists_mem_cons_iff]
      tauto
  refine ⟨(go addrs [] List.Pairwise.nil).1, fun w => ?_⟩
  have h := (go addrs [] List.Pairwise.nil).2 w
  rw [addrSet, h]
  simp

end Sys2Proof.Machine
end

