-- ==== Sys2Proof/Laws/Memory.lean ====
section
/-! SUPPORT. Memory: read after write, and that every operation keeps the canonical form. -/

namespace Sys2Proof.Machine

theorem Memory.read_insert (m : Memory) (addr : Nat) (v : Byte) (b : Nat) :
    (Memory.insert m addr v).read b = if b = addr then v else m.read b := by
  induction m with
  | nil => simp [Memory.insert, Memory.read, eq_comm]
  | cons cell rest ih =>
    obtain ⟨k, w⟩ := cell
    unfold Memory.insert
    split
    · rename_i h
      by_cases hb : addr = b <;> simp [Memory.read, hb, eq_comm]
    · split
      · rename_i h
        subst h
        by_cases hb : addr = b <;> simp [Memory.read, hb, eq_comm]
      · rename_i h
        by_cases hk : k = b
        · subst hk; simp [Memory.read, Ne.symm h]
        · simp [Memory.read, hk, ih]

theorem Memory.read_erase (m : Memory) (addr b : Nat) :
    Memory.read (m.filter (fun cell => cell.1 != addr)) b = if b = addr then Memory.blank else m.read b := by
  induction m with
  | nil => simp [Memory.read]
  | cons cell rest ih =>
    obtain ⟨k, w⟩ := cell
    by_cases hk : k = addr
    · subst hk
      by_cases hb : k = b
      · subst hb; simp [ih]
      · simp [ih, Memory.read, hb, Ne.symm hb]
    · have hk' : (k != addr) = true := by simpa using hk
      rw [List.filter_cons_of_pos (by simpa using hk)]
      by_cases hb : k = b
      · subst hb; simp [Memory.read, hk]
      · simp [Memory.read, hb, ih]

/-- What a byte reads as after a store (R54, R58). It holds of every list, canonical or not. -/
theorem Memory.read_write (m : Memory) (addr : Nat) (v : Byte) (b : Nat) :
    (m.write addr v).read b = if b = addr then v else m.read b := by
  unfold Memory.write
  split
  · rename_i h; subst h; exact m.read_erase addr b
  · exact m.read_insert addr v b

@[simp] theorem Memory.read_write_self (m : Memory) (addr : Nat) (v : Byte) : (m.write addr v).read addr = v := by
  simp [Memory.read_write]

theorem Memory.read_write_of_ne (m : Memory) {addr b : Nat} (v : Byte) (h : b ≠ addr) :
    (m.write addr v).read b = m.read b := by
  simp [Memory.read_write, h]

theorem Memory.mem_insert {m : Memory} {addr : Nat} {v : Byte} {cell : Host.Cell}
    (h : cell ∈ Memory.insert m addr v) : cell = (addr, v) ∨ cell ∈ m := by
  induction m with
  | nil => simpa [Memory.insert] using h
  | cons x rest ih =>
    obtain ⟨k, w⟩ := x
    unfold Memory.insert at h
    split at h
    · simpa using h
    · split at h
      · rcases List.mem_cons.mp h with h | h
        · exact .inl h
        · exact .inr (List.mem_cons_of_mem _ h)
      · rcases List.mem_cons.mp h with h | h
        · exact .inr (h ▸ List.mem_cons_self)
        · exact (ih h).imp_right (List.mem_cons_of_mem _)

theorem Memory.pairwise_insert {m : Memory} (addr : Nat) (v : Byte) (h : m.Pairwise (fun x y => x.1 < y.1)) :
    (Memory.insert m addr v).Pairwise (fun x y => x.1 < y.1) := by
  induction m with
  | nil => simp [Memory.insert]
  | cons x rest ih =>
    obtain ⟨k, w⟩ := x
    obtain ⟨hk, hrest⟩ := List.pairwise_cons.mp h
    unfold Memory.insert
    split
    · rename_i hlt
      refine List.pairwise_cons.mpr ⟨fun y hy => ?_, h⟩
      rcases List.mem_cons.mp hy with rfl | hy
      · exact hlt
      · exact Nat.lt_trans hlt (hk y hy)
    · split
      · rename_i heq
        subst heq
        exact List.pairwise_cons.mpr ⟨hk, hrest⟩
      · rename_i h1 h2
        refine List.pairwise_cons.mpr ⟨fun y hy => ?_, ih hrest⟩
        rcases Memory.mem_insert hy with rfl | hy
        · show k < addr; omega
        · exact hk y hy

/-- A store inside memory keeps the canonical form. -/
theorem Memory.wf_write {m : Memory} {addr : Nat} (v : Byte) (h : m.wf) (ha : addr < memSize) : (m.write addr v).wf := by
  unfold Memory.write
  split
  · exact ⟨h.1.filter _, fun cell hc => h.2 cell (List.mem_of_mem_filter hc)⟩
  · rename_i hv
    refine ⟨Memory.pairwise_insert addr v h.1, fun cell hc => ?_⟩
    rcases Memory.mem_insert hc with rfl | hc
    · exact ⟨ha, hv⟩
    · exact h.2 cell hc

/-- Storing bytes inside memory keeps the canonical form. -/
theorem Memory.wf_load {m : Memory} {addr : Nat} (bytes : List Byte) (h : m.wf) (ha : addr + bytes.length ≤ memSize) :
    (m.load addr bytes).wf := by
  induction bytes generalizing m addr with
  | nil => exact h
  | cons v rest ih =>
    simp only [List.length_cons] at ha
    exact ih (Memory.wf_write v h (by omega)) (by omega)

/-- What a byte reads as after some bytes were stored from an address upward (R302). -/
theorem Memory.read_load (m : Memory) (addr : Nat) (bytes : List Byte) (b : Nat) :
    (m.load addr bytes).read b = if addr ≤ b ∧ b < addr + bytes.length then bytes.getD (b - addr) 0 else m.read b := by
  induction bytes generalizing m addr with
  | nil => simp [Memory.load]
  | cons v rest ih =>
    simp only [Memory.load, ih, List.length_cons, Memory.read_write]
    by_cases h1 : addr + 1 ≤ b ∧ b < addr + 1 + rest.length
    · have hd : b - addr = (b - (addr + 1)) + 1 := by omega
      rw [if_pos h1, if_pos (by omega), hd, List.getD_cons_succ]
    · rw [if_neg h1]
      by_cases h2 : b = addr
      · subst h2; simp
      · rw [if_neg h2, if_neg (by omega)]

theorem Memory.wf_nil : Memory.wf [] := by simp [Memory.wf]

end Sys2Proof.Machine
end

