-- ==== Sys2Proof/Laws/Ops.lean ====
section
/-! SUPPORT. For each shared operation, everything it can do. -/

namespace Sys2Proof.Machine

theorem memRead_ok {s : State} {addr : Nat} (h : addr < memSize) : memRead s addr = .ok (s.mem.read addr) := if_pos h

theorem memRead_error {s : State} {addr : Nat} (h : memSize ≤ addr) : memRead s addr = .error (.outOfBounds addr) :=
  if_neg (Nat.not_lt.mpr h)

/-- An instruction that can raise ends with its own effect or with nothing but the halt (R265). -/
theorem takeHalt_cases {s t : State} {x : Except Fault State} (h : takeHalt s x = .next t) :
    x = .ok t ∨ ∃ f, x = .error f ∧ t = s.halt f.reason := by
  cases x with
  | ok u => exact .inl (by simpa [takeHalt] using h)
  | error f => exact .inr ⟨f, rfl, by simpa [takeHalt, raise] using h.symm⟩

theorem takeHalt_next (s : State) (x : Except Fault State) : ∃ t, takeHalt s x = .next t := by
  cases x <;> exact ⟨_, rfl⟩

/-- A push (R182): halted at SP = 0 and SP = 1, otherwise two bytes stored below SP. -/
theorem pushWord_cases (s : State) (w : Word) :
    (s.sp.toNat < 2 ∧ pushWord s w = .error (.outOfBounds (-1))) ∨
    (2 ≤ s.sp.toNat ∧ pushWord s w = .ok { s with
      mem := (s.mem.write (s.sp.toNat - 1) (hiByte w)).write (s.sp.toNat - 2) (loByte w), sp := s.sp - 2 }) := by
  have hcase : s.sp.toNat = 0 ∨ s.sp.toNat = 1 ∨ 2 ≤ s.sp.toNat := by omega
  rcases hcase with h | h | h
  · exact .inl ⟨by omega, by simp [pushWord, h]⟩
  · exact .inl ⟨by omega, by simp [pushWord, h]⟩
  · refine .inr ⟨h, ?_⟩
    have h1 : ¬ ((s.sp.toNat : Int) - 1 < 0) := by omega
    have h2 : ¬ ((s.sp.toNat : Int) - 2 < 0) := by omega
    simp only [pushWord, if_neg h1, if_neg h2]

theorem pushWord_ok {s : State} (w : Word) (h : 2 ≤ s.sp.toNat) : pushWord s w = .ok { s with
    mem := (s.mem.write (s.sp.toNat - 1) (hiByte w)).write (s.sp.toNat - 2) (loByte w), sp := s.sp - 2 } := by
  rcases pushWord_cases s w with ⟨h', _⟩ | ⟨_, h'⟩
  · omega
  · exact h'

theorem pushWord_error {s : State} (w : Word) (h : s.sp.toNat < 2) : pushWord s w = .error (.outOfBounds (-1)) := by
  rcases pushWord_cases s w with ⟨_, h'⟩ | ⟨h', _⟩
  · exact h'
  · omega

/-- A pop (R182): halted at SP = 0xFFFF, otherwise the two bytes at SP. -/
theorem popWord_cases (s : State) :
    (s.sp.toNat = 65535 ∧ popWord s = .error (.outOfBounds 65536)) ∨
    (s.sp.toNat < 65535 ∧ popWord s =
      .ok (pair (s.mem.read (s.sp.toNat + 1)) (s.mem.read s.sp.toNat), { s with sp := s.sp + 2 })) := by
  have hlt : s.sp.toNat < 65536 := s.sp.isLt
  by_cases h : s.sp.toNat = 65535
  · exact .inl ⟨h, by simp [popWord, h, memSize]⟩
  · refine .inr ⟨by omega, ?_⟩
    have h1 : ¬ (s.sp.toNat + 1 ≥ memSize) := by simp only [memSize]; omega
    simp only [popWord, if_neg h1]

theorem popWord_ok {s : State} (h : s.sp.toNat < 65535) : popWord s =
    .ok (pair (s.mem.read (s.sp.toNat + 1)) (s.mem.read s.sp.toNat), { s with sp := s.sp + 2 }) := by
  rcases popWord_cases s with ⟨h', _⟩ | ⟨_, h'⟩
  · omega
  · exact h'

theorem popWord_error {s : State} (h : s.sp.toNat = 65535) : popWord s = .error (.outOfBounds 65536) := by
  rcases popWord_cases s with ⟨_, h'⟩ | ⟨h', _⟩
  · exact h'
  · omega

/-! The flags of a written Flags byte (R26). -/

@[simp] theorem Flags.setBit_getElem (f mask : Byte) (v : Bool) (k : Nat) (hk : k < 8) :
    (Flags.setBit f mask v)[k] = if mask[k] then v else f[k] := by
  unfold Flags.setBit
  cases v <;> cases hm : mask[k] <;> simp [hm]

/-- The reserved bits stay (R27). -/
theorem Flags.result_reserved (f r : Byte) (cy ac : Bool) :
    Flags.result f r cy ac &&& reservedMask = f &&& reservedMask := by
  apply BitVec.eq_of_getLsbD_eq
  intro k hk
  have hcases : k = 0 ∨ k = 1 ∨ k = 2 ∨ k = 3 ∨ k = 4 ∨ k = 5 ∨ k = 6 ∨ k = 7 := by omega
  rcases hcases with rfl | rfl | rfl | rfl | rfl | rfl | rfl | rfl <;>
    simp [Flags.result, Flags.szp, Flags.setAC, Flags.setCY, Flags.setP, Flags.setZ, Flags.setS,
      reservedMask]

end Sys2Proof.Machine
end

