-- ==== Sys2Proof/Laws/Meanings.lean ====
section
/-! SUPPORT. For each operation that a family of instructions shares, everything it can do: its effect, or the halt. -/

namespace Sys2Proof.Machine

/-! Two bytes at an address in an instruction or in SP. -/

/-- LHLD (R109). -/
theorem loadHL_cases (a16 : Word) (s : State) :
    (a16.toNat + 1 < 65536 ∧ loadHL a16 s =
      .ok { s with l := s.mem.read a16.toNat, h := s.mem.read (a16.toNat + 1), pc := s.pc + 3 }) ∨
    (a16.toNat = 65535 ∧ loadHL a16 s = .error (.outOfBounds 65536)) := by
  rcases Nat.lt_or_ge (a16.toNat + 1) 65536 with h | h
  · have hm : a16.toNat + 1 < memSize := h
    exact .inl ⟨h, by simp only [loadHL, memRead_ok hm]; rfl⟩
  · have ha : a16.toNat = 65535 := by have := a16.isLt; omega
    refine .inr ⟨ha, ?_⟩
    simp only [loadHL, ha]
    rfl

/-- SHLD (R110). -/
theorem storeHL_cases (a16 : Word) (s : State) :
    (a16.toNat + 1 < 65536 ∧ storeHL a16 s =
      .ok { s with mem := (s.mem.write a16.toNat s.l).write (a16.toNat + 1) s.h, pc := s.pc + 3 }) ∨
    (a16.toNat = 65535 ∧ storeHL a16 s = .error (.outOfBounds 65536)) := by
  rcases Nat.lt_or_ge (a16.toNat + 1) 65536 with h | h
  · exact .inl ⟨h, if_neg (Nat.not_le.mpr h)⟩
  · have ha : a16.toNat = 65535 := by have := a16.isLt; omega
    refine .inr ⟨ha, (if_pos h).trans ?_⟩
    rw [ha]
    rfl

/-- XTHL (R114). -/
theorem exchangeTop_cases (s : State) :
    (s.sp.toNat + 1 < 65536 ∧ exchangeTop s = .ok { s with
      mem := (s.mem.write s.sp.toNat s.l).write (s.sp.toNat + 1) s.h
      l := s.mem.read s.sp.toNat, h := s.mem.read (s.sp.toNat + 1), pc := s.pc + 1 }) ∨
    (s.sp.toNat = 65535 ∧ exchangeTop s = .error (.outOfBounds 65536)) := by
  rcases Nat.lt_or_ge (s.sp.toNat + 1) 65536 with h | h
  · exact .inl ⟨h, if_neg (Nat.not_le.mpr h)⟩
  · have ha : s.sp.toNat = 65535 := by have := s.sp.isLt; omega
    refine .inr ⟨ha, (if_pos h).trans ?_⟩
    rw [ha]
    rfl

/-! Calls, returns, pushes, pops. -/

/-- CALL and RST (R193, R211), in the order of the checks. -/
theorem callTo_cases (target : Word) (len : Nat) (s : State) :
    (65536 ≤ s.pc + len ∧ callTo target len s = .next { s with run := .halted (.outOfBounds (s.pc + len : Nat)) }) ∨
    (s.pc + len < 65536 ∧ s.sp.toNat < 2 ∧ callTo target len s = .next { s with run := .halted (.outOfBounds (-1)) }) ∨
    (s.pc + len < 65536 ∧ 2 ≤ s.sp.toNat ∧ callTo target len s = .next { s with
      mem := (s.mem.write (s.sp.toNat - 1) (hiByte (BitVec.ofNat 16 (s.pc + len)))).write (s.sp.toNat - 2)
        (loByte (BitVec.ofNat 16 (s.pc + len)))
      sp := s.sp - 2, pc := target.toNat }) := by
  rcases Nat.lt_or_ge (s.pc + len) 65536 with h | h
  · have hn : ¬ (s.pc + len ≥ memSize) := Nat.not_le.mpr h
    rcases Nat.lt_or_ge s.sp.toNat 2 with hs | hs
    · refine .inr (.inl ⟨h, hs, ?_⟩)
      simp only [callTo, if_neg hn, pushWord_error _ hs, Except.map]
      rfl
    · refine .inr (.inr ⟨h, hs, ?_⟩)
      simp only [callTo, if_neg hn, pushWord_ok _ hs, Except.map]
      rfl
  · refine .inl ⟨h, ?_⟩
    have hp : s.pc + len ≥ memSize := h
    simp only [callTo, if_pos hp]
    rfl

/-- RET (R202). -/
theorem returnVia_cases (via : Word → Word) (s : State) :
    (s.sp.toNat < 65535 ∧ returnVia via s = .next { s with
      sp := s.sp + 2, pc := (via (pair (s.mem.read (s.sp.toNat + 1)) (s.mem.read s.sp.toNat))).toNat }) ∨
    (s.sp.toNat = 65535 ∧ returnVia via s = .next { s with run := .halted (.outOfBounds 65536) }) := by
  rcases Nat.lt_or_ge s.sp.toNat 65535 with h | h
  · exact .inl ⟨h, by simp only [returnVia, popWord_ok h]; rfl⟩
  · have ha : s.sp.toNat = 65535 := by have := s.sp.isLt; omega
    exact .inr ⟨ha, by simp only [returnVia, popWord_error ha]; rfl⟩

/-- PUSH (R221, R222). -/
theorem pushValue_cases (w : Word) (s : State) :
    (2 ≤ s.sp.toNat ∧ pushValue w s = .next { s with
      mem := (s.mem.write (s.sp.toNat - 1) (hiByte w)).write (s.sp.toNat - 2) (loByte w)
      sp := s.sp - 2, pc := s.pc + 1 }) ∨
    (s.sp.toNat < 2 ∧ pushValue w s = .next { s with run := .halted (.outOfBounds (-1)) }) := by
  rcases Nat.lt_or_ge s.sp.toNat 2 with h | h
  · exact .inr ⟨h, by simp only [pushValue, pushWord_error _ h]; rfl⟩
  · exact .inl ⟨h, by simp only [pushValue, pushWord_ok _ h]; rfl⟩

/-- POP of BC, DE or HL (R223). -/
theorem popPair_cases (p : Pair) (s : State) :
    (s.sp.toNat < 65535 ∧ popPair p s = .next ((({ s with sp := s.sp + 2 } : State).setPair p
      (pair (s.mem.read (s.sp.toNat + 1)) (s.mem.read s.sp.toNat))).advance 1)) ∨
    (s.sp.toNat = 65535 ∧ popPair p s = .next { s with run := .halted (.outOfBounds 65536) }) := by
  rcases Nat.lt_or_ge s.sp.toNat 65535 with h | h
  · exact .inl ⟨h, by simp only [popPair, popWord_ok h]; rfl⟩
  · have ha : s.sp.toNat = 65535 := by have := s.sp.isLt; omega
    exact .inr ⟨ha, by simp only [popPair, popWord_error ha]; rfl⟩

/-- POP of A and FLAGS (R224). -/
theorem popAccFlags_cases (s : State) :
    (s.sp.toNat < 65535 ∧ popAccFlags s = .next { s with
      a := s.mem.read (s.sp.toNat + 1)
      flags := (s.flags &&& reservedMask) ||| (s.mem.read s.sp.toNat &&& flagMask)
      sp := s.sp + 2, pc := s.pc + 1 }) ∨
    (s.sp.toNat = 65535 ∧ popAccFlags s = .next { s with run := .halted (.outOfBounds 65536) }) := by
  rcases Nat.lt_or_ge s.sp.toNat 65535 with h | h
  · refine .inl ⟨h, ?_⟩
    simp only [popAccFlags, popWord_ok h, Except.map, hiByte_pair, loByte_pair]
    rfl
  · have ha : s.sp.toNat = 65535 := by have := s.sp.isLt; omega
    exact .inr ⟨ha, by simp only [popAccFlags, popWord_error ha]; rfl⟩

/-- IN (R231, R286, R230): a byte for A and the event at the boundary, or a wait, with at most the replies moved on. -/
theorem input_cases (port : Byte) (s : State) :
    (bridgeWaits s = false ∧ ∃ v rs, input port s = .next { s with
      a := v, replies := rs, io := s.io ++ [.read (s.pc + s.cfg.ioPcView.val) port v], pc := s.pc + 2 }) ∨
    (bridgeWaits s = true ∧ ∃ rs, input port s = .next { s with replies := rs }) := by
  unfold input bridgeWaits
  rcases s.replies with _ | ⟨v | _ | _, rest⟩
  · exact .inl ⟨rfl, _, s.replies, rfl⟩
  · exact .inl ⟨rfl, _, rest, rfl⟩
  · exact .inr ⟨rfl, rest, rfl⟩
  · exact .inr ⟨rfl, s.replies, rfl⟩

/-! The flags that the families write: outside its mask, a flag update leaves the byte as it was (R27). -/

/-- Two bytes that agree in every bit outside a mask agree outside it. -/
theorem and_not_mask {f g m : Byte} (h : ∀ (k : Nat) (hk : k < 8), m[k] = false → f[k] = g[k]) :
    f &&& ~~~m = g &&& ~~~m := by
  apply BitVec.eq_of_getElem_eq
  intro k hk
  have := h k hk
  cases hm : m[k] <;> simp_all

theorem Flags.setBit_outside (f mask m : Byte) (v : Bool) (h : ∀ (k : Nat) (hk : k < 8), m[k] = false → mask[k] = false) :
    Flags.setBit f mask v &&& ~~~m = f &&& ~~~m :=
  and_not_mask fun k hk hm => by simp [h k hk hm]

theorem Flags.setCY_outside (f : Byte) (v : Bool) : Flags.setCY f v &&& ~~~(0x01 : Byte) = f &&& ~~~(0x01 : Byte) :=
  Flags.setBit_outside f _ _ v (by decide)

theorem Flags.result_outside (f r : Byte) (cy ac : Bool) :
    Flags.result f r cy ac &&& ~~~(0xD5 : Byte) = f &&& ~~~(0xD5 : Byte) := by
  simp only [Flags.result, Flags.szp, Flags.setAC, Flags.setCY, Flags.setP, Flags.setZ, Flags.setS]
  iterate 5 rw [Flags.setBit_outside _ _ _ _ (by decide)]

/-- The five flags of a result (R28, R140, R160). -/
theorem Flags.result_bits (f r : Byte) (cy ac : Bool) :
    (Flags.result f r cy ac).getLsbD 7 = r.getLsbD 7 ∧ (Flags.result f r cy ac).getLsbD 6 = decide (r = 0) ∧
    (Flags.result f r cy ac).getLsbD 4 = ac ∧ (Flags.result f r cy ac).getLsbD 2 = (popcount r % 2 == 0) ∧
    (Flags.result f r cy ac).getLsbD 0 = cy := by
  refine ⟨?_, ?_, ?_, ?_, ?_⟩ <;>
    simp [Flags.result, Flags.szp, Flags.setAC, Flags.setCY, Flags.setP, Flags.setZ, Flags.setS,
      BitVec.getLsbD_eq_getElem]
  rfl

theorem stepFlags_outside (op v r : Byte) (s : State) :
    stepFlags op v r s &&& ~~~(0xD4 : Byte) = s.flags &&& ~~~(0xD4 : Byte) := by
  simp only [stepFlags, Flags.szp, Flags.setAC, Flags.setP, Flags.setZ, Flags.setS]
  iterate 4 rw [Flags.setBit_outside _ _ _ _ (by decide)]

end Sys2Proof.Machine
end

