-- ==== Sys2Proof/Laws/PerInstr.lean ====
section
/-! SUPPORT. A law proved per instruction: the length of its encoding is the one its opcode byte fixes. -/

namespace Sys2Proof.Laws.EncodedLength

/-- A well-formed instruction is encoded in one byte more than its opcode byte's operand count (R70, R86). -/
def Statement (i : Instr) : Prop :=
  i.wf = true → (encode i).length = 1 + operandCount (opcodeByte i)

/-- The law from the opcode byte and the operand count of an instruction. -/
theorem of_operands {i : Instr} (op : Byte) (n : Nat) (hop : opcodeByte i = op) (hn : operandCount op = n)
    (hlen : (encode i).length = n + 1) : Statement i := by
  intro _
  rw [hop, hn, hlen, Nat.add_comm]

theorem nop : Statement .nop := fun _ => rfl
theorem lxiB (d16 : Word) : Statement (.lxiB d16) := of_operands 0x01 2 rfl rfl rfl
theorem staxB : Statement .staxB := fun _ => rfl
theorem inxB : Statement .inxB := fun _ => rfl
theorem inrB : Statement .inrB := fun _ => rfl
theorem dcrB : Statement .dcrB := fun _ => rfl
theorem mviB (d8 : Byte) : Statement (.mviB d8) := of_operands 0x06 1 rfl rfl rfl
theorem rlc : Statement .rlc := fun _ => rfl
theorem nop08 : Statement .nop08 := fun _ => rfl
theorem dadB : Statement .dadB := fun _ => rfl
theorem ldaxB : Statement .ldaxB := fun _ => rfl
theorem dcxB : Statement .dcxB := fun _ => rfl
theorem inrC : Statement .inrC := fun _ => rfl
theorem dcrC : Statement .dcrC := fun _ => rfl
theorem mviC (d8 : Byte) : Statement (.mviC d8) := of_operands 0x0E 1 rfl rfl rfl
theorem rrc : Statement .rrc := fun _ => rfl
theorem undefined (op : Byte) : Statement (.undefined op) := by
  intro h
  have h : op ∈ undefinedBytes := by simpa [Instr.wf] using h
  fin_cases h <;> rfl

theorem lxiD (d16 : Word) : Statement (.lxiD d16) := of_operands 0x11 2 rfl rfl rfl
theorem staxD : Statement .staxD := fun _ => rfl
theorem inxD : Statement .inxD := fun _ => rfl
theorem inrD : Statement .inrD := fun _ => rfl
theorem dcrD : Statement .dcrD := fun _ => rfl
theorem mviD (d8 : Byte) : Statement (.mviD d8) := of_operands 0x16 1 rfl rfl rfl
theorem ral : Statement .ral := fun _ => rfl
theorem dadD : Statement .dadD := fun _ => rfl
theorem ldaxD : Statement .ldaxD := fun _ => rfl
theorem dcxD : Statement .dcxD := fun _ => rfl
theorem inrE : Statement .inrE := fun _ => rfl
theorem dcrE : Statement .dcrE := fun _ => rfl
theorem mviE (d8 : Byte) : Statement (.mviE d8) := of_operands 0x1E 1 rfl rfl rfl
theorem rar : Statement .rar := fun _ => rfl
theorem lxiH (d16 : Word) : Statement (.lxiH d16) := of_operands 0x21 2 rfl rfl rfl
theorem shld (a16 : Word) : Statement (.shld a16) := of_operands 0x22 2 rfl rfl rfl
theorem inxH : Statement .inxH := fun _ => rfl
theorem inrH : Statement .inrH := fun _ => rfl
theorem dcrH : Statement .dcrH := fun _ => rfl
theorem mviH (d8 : Byte) : Statement (.mviH d8) := of_operands 0x26 1 rfl rfl rfl
theorem dadH : Statement .dadH := fun _ => rfl
theorem lhld (a16 : Word) : Statement (.lhld a16) := of_operands 0x2A 2 rfl rfl rfl
theorem dcxH : Statement .dcxH := fun _ => rfl
theorem inrL : Statement .inrL := fun _ => rfl
theorem dcrL : Statement .dcrL := fun _ => rfl
theorem mviL (d8 : Byte) : Statement (.mviL d8) := of_operands 0x2E 1 rfl rfl rfl
theorem cma : Statement .cma := fun _ => rfl
theorem lxiSp (d16 : Word) : Statement (.lxiSp d16) := of_operands 0x31 2 rfl rfl rfl
theorem sta (a16 : Word) : Statement (.sta a16) := of_operands 0x32 2 rfl rfl rfl
theorem inxSp : Statement .inxSp := fun _ => rfl
theorem inrM : Statement .inrM := fun _ => rfl
theorem dcrM : Statement .dcrM := fun _ => rfl
theorem mviM (d8 : Byte) : Statement (.mviM d8) := of_operands 0x36 1 rfl rfl rfl
theorem stc : Statement .stc := fun _ => rfl
theorem dadSp : Statement .dadSp := fun _ => rfl
theorem lda (a16 : Word) : Statement (.lda a16) := of_operands 0x3A 2 rfl rfl rfl
theorem dcxSp : Statement .dcxSp := fun _ => rfl
theorem inrA : Statement .inrA := fun _ => rfl
theorem dcrA : Statement .dcrA := fun _ => rfl
theorem mviA (d8 : Byte) : Statement (.mviA d8) := of_operands 0x3E 1 rfl rfl rfl
theorem cmc : Statement .cmc := fun _ => rfl
theorem movBB : Statement .movBB := fun _ => rfl
theorem movBC : Statement .movBC := fun _ => rfl
theorem movBD : Statement .movBD := fun _ => rfl
theorem movBE : Statement .movBE := fun _ => rfl
theorem movBH : Statement .movBH := fun _ => rfl
theorem movBL : Statement .movBL := fun _ => rfl
theorem movBM : Statement .movBM := fun _ => rfl
theorem movBA : Statement .movBA := fun _ => rfl
theorem movCB : Statement .movCB := fun _ => rfl
theorem movCC : Statement .movCC := fun _ => rfl
theorem movCD : Statement .movCD := fun _ => rfl
theorem movCE : Statement .movCE := fun _ => rfl
theorem movCH : Statement .movCH := fun _ => rfl
theorem movCL : Statement .movCL := fun _ => rfl
theorem movCM : Statement .movCM := fun _ => rfl
theorem movCA : Statement .movCA := fun _ => rfl
theorem movDB : Statement .movDB := fun _ => rfl
theorem movDC : Statement .movDC := fun _ => rfl
theorem movDD : Statement .movDD := fun _ => rfl
theorem movDE : Statement .movDE := fun _ => rfl
theorem movDH : Statement .movDH := fun _ => rfl
theorem movDL : Statement .movDL := fun _ => rfl
theorem movDM : Statement .movDM := fun _ => rfl
theorem movDA : Statement .movDA := fun _ => rfl
theorem movEB : Statement .movEB := fun _ => rfl
theorem movEC : Statement .movEC := fun _ => rfl
theorem movED : Statement .movED := fun _ => rfl
theorem movEE : Statement .movEE := fun _ => rfl
theorem movEH : Statement .movEH := fun _ => rfl
theorem movEL : Statement .movEL := fun _ => rfl
theorem movEM : Statement .movEM := fun _ => rfl
theorem movEA : Statement .movEA := fun _ => rfl
theorem movHB : Statement .movHB := fun _ => rfl
theorem movHC : Statement .movHC := fun _ => rfl
theorem movHD : Statement .movHD := fun _ => rfl
theorem movHE : Statement .movHE := fun _ => rfl
theorem movHH : Statement .movHH := fun _ => rfl
theorem movHL : Statement .movHL := fun _ => rfl
theorem movHM : Statement .movHM := fun _ => rfl
theorem movHA : Statement .movHA := fun _ => rfl
theorem movLB : Statement .movLB := fun _ => rfl
theorem movLC : Statement .movLC := fun _ => rfl
theorem movLD : Statement .movLD := fun _ => rfl
theorem movLE : Statement .movLE := fun _ => rfl
theorem movLH : Statement .movLH := fun _ => rfl
theorem movLL : Statement .movLL := fun _ => rfl
theorem movLM : Statement .movLM := fun _ => rfl
theorem movLA : Statement .movLA := fun _ => rfl
theorem movMB : Statement .movMB := fun _ => rfl
theorem movMC : Statement .movMC := fun _ => rfl
theorem movMD : Statement .movMD := fun _ => rfl
theorem movME : Statement .movME := fun _ => rfl
theorem movMH : Statement .movMH := fun _ => rfl
theorem movML : Statement .movML := fun _ => rfl
theorem movMA : Statement .movMA := fun _ => rfl
theorem movAB : Statement .movAB := fun _ => rfl
theorem movAC : Statement .movAC := fun _ => rfl
theorem movAD : Statement .movAD := fun _ => rfl
theorem movAE : Statement .movAE := fun _ => rfl
theorem movAH : Statement .movAH := fun _ => rfl
theorem movAL : Statement .movAL := fun _ => rfl
theorem movAM : Statement .movAM := fun _ => rfl
theorem movAA : Statement .movAA := fun _ => rfl
theorem addB : Statement .addB := fun _ => rfl
theorem addC : Statement .addC := fun _ => rfl
theorem addD : Statement .addD := fun _ => rfl
theorem addE : Statement .addE := fun _ => rfl
theorem addH : Statement .addH := fun _ => rfl
theorem addL : Statement .addL := fun _ => rfl
theorem addM : Statement .addM := fun _ => rfl
theorem addA : Statement .addA := fun _ => rfl
theorem adcB : Statement .adcB := fun _ => rfl
theorem adcC : Statement .adcC := fun _ => rfl
theorem adcD : Statement .adcD := fun _ => rfl
theorem adcE : Statement .adcE := fun _ => rfl
theorem adcH : Statement .adcH := fun _ => rfl
theorem adcL : Statement .adcL := fun _ => rfl
theorem adcM : Statement .adcM := fun _ => rfl
theorem adcA : Statement .adcA := fun _ => rfl
theorem subB : Statement .subB := fun _ => rfl
theorem subC : Statement .subC := fun _ => rfl
theorem subD : Statement .subD := fun _ => rfl
theorem subE : Statement .subE := fun _ => rfl
theorem subH : Statement .subH := fun _ => rfl
theorem subL : Statement .subL := fun _ => rfl
theorem subM : Statement .subM := fun _ => rfl
theorem subA : Statement .subA := fun _ => rfl
theorem sbbB : Statement .sbbB := fun _ => rfl
theorem sbbC : Statement .sbbC := fun _ => rfl
theorem sbbD : Statement .sbbD := fun _ => rfl
theorem sbbE : Statement .sbbE := fun _ => rfl
theorem sbbH : Statement .sbbH := fun _ => rfl
theorem sbbL : Statement .sbbL := fun _ => rfl
theorem sbbM : Statement .sbbM := fun _ => rfl
theorem sbbA : Statement .sbbA := fun _ => rfl
theorem anaB : Statement .anaB := fun _ => rfl
theorem anaC : Statement .anaC := fun _ => rfl
theorem anaD : Statement .anaD := fun _ => rfl
theorem anaE : Statement .anaE := fun _ => rfl
theorem anaH : Statement .anaH := fun _ => rfl
theorem anaL : Statement .anaL := fun _ => rfl
theorem anaM : Statement .anaM := fun _ => rfl
theorem anaA : Statement .anaA := fun _ => rfl
theorem xraB : Statement .xraB := fun _ => rfl
theorem xraC : Statement .xraC := fun _ => rfl
theorem xraD : Statement .xraD := fun _ => rfl
theorem xraE : Statement .xraE := fun _ => rfl
theorem xraH : Statement .xraH := fun _ => rfl
theorem xraL : Statement .xraL := fun _ => rfl
theorem xraM : Statement .xraM := fun _ => rfl
theorem xraA : Statement .xraA := fun _ => rfl
theorem oraB : Statement .oraB := fun _ => rfl
theorem oraC : Statement .oraC := fun _ => rfl
theorem oraD : Statement .oraD := fun _ => rfl
theorem oraE : Statement .oraE := fun _ => rfl
theorem oraH : Statement .oraH := fun _ => rfl
theorem oraL : Statement .oraL := fun _ => rfl
theorem oraM : Statement .oraM := fun _ => rfl
theorem oraA : Statement .oraA := fun _ => rfl
theorem cmpB : Statement .cmpB := fun _ => rfl
theorem cmpC : Statement .cmpC := fun _ => rfl
theorem cmpD : Statement .cmpD := fun _ => rfl
theorem cmpE : Statement .cmpE := fun _ => rfl
theorem cmpH : Statement .cmpH := fun _ => rfl
theorem cmpL : Statement .cmpL := fun _ => rfl
theorem cmpM : Statement .cmpM := fun _ => rfl
theorem cmpA : Statement .cmpA := fun _ => rfl
theorem rnz : Statement .rnz := fun _ => rfl
theorem popB : Statement .popB := fun _ => rfl
theorem jnz (a16 : Word) : Statement (.jnz a16) := of_operands 0xC2 2 rfl rfl rfl
theorem jmp (a16 : Word) : Statement (.jmp a16) := of_operands 0xC3 2 rfl rfl rfl
theorem cnz (a16 : Word) : Statement (.cnz a16) := of_operands 0xC4 2 rfl rfl rfl
theorem pushB : Statement .pushB := fun _ => rfl
theorem adi (d8 : Byte) : Statement (.adi d8) := of_operands 0xC6 1 rfl rfl rfl
theorem rst0 : Statement .rst0 := fun _ => rfl
theorem rz : Statement .rz := fun _ => rfl
theorem ret : Statement .ret := fun _ => rfl
theorem jz (a16 : Word) : Statement (.jz a16) := of_operands 0xCA 2 rfl rfl rfl
theorem cz (a16 : Word) : Statement (.cz a16) := of_operands 0xCC 2 rfl rfl rfl
theorem call (a16 : Word) : Statement (.call a16) := of_operands 0xCD 2 rfl rfl rfl
theorem aci (d8 : Byte) : Statement (.aci d8) := of_operands 0xCE 1 rfl rfl rfl
theorem rst1 : Statement .rst1 := fun _ => rfl
theorem rnc : Statement .rnc := fun _ => rfl
theorem popD : Statement .popD := fun _ => rfl
theorem jnc (a16 : Word) : Statement (.jnc a16) := of_operands 0xD2 2 rfl rfl rfl
theorem outPort (port : Byte) : Statement (.outPort port) := of_operands 0xD3 1 rfl rfl rfl
theorem cnc (a16 : Word) : Statement (.cnc a16) := of_operands 0xD4 2 rfl rfl rfl
theorem pushD : Statement .pushD := fun _ => rfl
theorem sui (d8 : Byte) : Statement (.sui d8) := of_operands 0xD6 1 rfl rfl rfl
theorem rst2 : Statement .rst2 := fun _ => rfl
theorem rc : Statement .rc := fun _ => rfl
theorem jc (a16 : Word) : Statement (.jc a16) := of_operands 0xDA 2 rfl rfl rfl
theorem inPort (port : Byte) : Statement (.inPort port) := of_operands 0xDB 1 rfl rfl rfl
theorem cc (a16 : Word) : Statement (.cc a16) := of_operands 0xDC 2 rfl rfl rfl
theorem sbi (d8 : Byte) : Statement (.sbi d8) := of_operands 0xDE 1 rfl rfl rfl
theorem rst3 : Statement .rst3 := fun _ => rfl
theorem rpo : Statement .rpo := fun _ => rfl
theorem popH : Statement .popH := fun _ => rfl
theorem jpo (a16 : Word) : Statement (.jpo a16) := of_operands 0xE2 2 rfl rfl rfl
theorem xthl : Statement .xthl := fun _ => rfl
theorem cpo (a16 : Word) : Statement (.cpo a16) := of_operands 0xE4 2 rfl rfl rfl
theorem pushH : Statement .pushH := fun _ => rfl
theorem ani (d8 : Byte) : Statement (.ani d8) := of_operands 0xE6 1 rfl rfl rfl
theorem rst4 : Statement .rst4 := fun _ => rfl
theorem rpe : Statement .rpe := fun _ => rfl
theorem pchl : Statement .pchl := fun _ => rfl
theorem jpe (a16 : Word) : Statement (.jpe a16) := of_operands 0xEA 2 rfl rfl rfl
theorem xchg : Statement .xchg := fun _ => rfl
theorem cpe (a16 : Word) : Statement (.cpe a16) := of_operands 0xEC 2 rfl rfl rfl
theorem xri (d8 : Byte) : Statement (.xri d8) := of_operands 0xEE 1 rfl rfl rfl
theorem rst5 : Statement .rst5 := fun _ => rfl
theorem rp : Statement .rp := fun _ => rfl
theorem popPsw : Statement .popPsw := fun _ => rfl
theorem jp (a16 : Word) : Statement (.jp a16) := of_operands 0xF2 2 rfl rfl rfl
theorem di : Statement .di := fun _ => rfl
theorem cp (a16 : Word) : Statement (.cp a16) := of_operands 0xF4 2 rfl rfl rfl
theorem pushPsw : Statement .pushPsw := fun _ => rfl
theorem ori (d8 : Byte) : Statement (.ori d8) := of_operands 0xF6 1 rfl rfl rfl
theorem rst6 : Statement .rst6 := fun _ => rfl
theorem rm : Statement .rm := fun _ => rfl
theorem sphl : Statement .sphl := fun _ => rfl
theorem jm (a16 : Word) : Statement (.jm a16) := of_operands 0xFA 2 rfl rfl rfl
theorem ei : Statement .ei := fun _ => rfl
theorem cm (a16 : Word) : Statement (.cm a16) := of_operands 0xFC 2 rfl rfl rfl
theorem cpi (d8 : Byte) : Statement (.cpi d8) := of_operands 0xFE 1 rfl rfl rfl
theorem rst7 : Statement .rst7 := fun _ => rfl

end Sys2Proof.Laws.EncodedLength
end

