-- ==== Sys2Proof/Laws/Step.lean ====
section
/-! SUPPORT. Everything a step of the machine can do, and the packaged induction over runs. -/

namespace Sys2Proof.Machine

/-- A Step ends with what its instruction does, or halted by its fetch (R85). -/
theorem instructionStep_cases {s t : State} (h : instructionStep s = .next t) :
    (∃ f, fetch s = .error f ∧ t = s.halt f.reason) ∨ (∃ i, fetch s = .ok i ∧ exec i s = .next t) := by
  unfold instructionStep at h
  split at h
  · rename_i f hf; exact .inl ⟨f, hf, by simpa [raise] using h.symm⟩
  · rename_i i hi; exact .inr ⟨i, hi, h⟩

/-- A step is a boundary, an unfinished wait, or an iteration of the loop (R270, R272, R277). -/
theorem step_cases {s t : State} (h : step s = .next t) :
    (s.active = false ∧ t = s.boundary) ∨
    (s.active = true ∧ s.waiting = true ∧ instructionStep s = .next t) ∨
    (s.active = true ∧ s.waiting = false ∧ ∃ u, instructionStep s = .next u ∧ t = (u.afterStep s.single).boundary) := by
  unfold step controllerStep at h
  split at h
  · rename_i ha
    unfold iteration at h
    split at h
    · rename_i u hu
      split at h
      · rename_i hw
        obtain rfl : u = t := by simpa using h
        exact .inr (.inl ⟨ha, hw, hu⟩)
      · rename_i hw
        exact .inr (.inr ⟨ha, by simpa using hw, u, hu, by simpa using h.symm⟩)
    · cases h
    · cases h
  · rename_i ha
    exact .inl ⟨by simpa using ha, by simpa using h.symm⟩

/-- No event reads or moves the queue itself. -/
theorem hostEvent_inbox (ev : HostEvent) (s : State) (q : List (Nat × HostEvent)) :
    hostEvent ev { s with inbox := q } = { hostEvent ev s with inbox := q } := by
  obtain ⟨a, b, c, d, e, h, l, flags, sp, pc, inte, run, bp, grant, mem, sstep, sw, replies, io, inbox, cfg⟩ := s
  cases ev with
  | loadRom bytes =>
    simp only [hostEvent, State.loadRom]
    cases run
    case idle => dsimp only; split <;> rfl
    all_goals rfl
  | setBreakpoints addrs => simp only [hostEvent, State.setBreakpoints]; split <;> rfl
  | _ => cases run <;> rfl

/-- Taking a queue of events does not depend on the queue field, which it sets. -/
theorem takeEvents_inbox (q q' : List (Nat × HostEvent)) (s : State) :
    takeEvents q { s with inbox := q' } = takeEvents q s := by
  induction q generalizing s with
  | nil => rfl
  | cons x rest ih =>
    obtain ⟨n, ev⟩ := x
    cases n with
    | succ n => rfl
    | zero =>
      simp only [takeEvents, hostEvent_inbox]
      split
      · rfl
      · exact ih _

/-- What every event keeps, taking events keeps (R280). `P` must not read the inbox. Each event is taken with no grant
outstanding, since a grant ends the taking (R277). -/
theorem takeEvents_keeps {P : State → Prop} (hinbox : ∀ s q, P s → P { s with inbox := q })
    (hev : ∀ ev s, s.grant = false → P s → P (hostEvent ev s)) (q : List (Nat × HostEvent)) (s : State)
    (hg : s.grant = false) (h : P s) : P (takeEvents q s) := by
  induction q generalizing s with
  | nil => exact hinbox s [] h
  | cons x rest ih =>
    obtain ⟨n, ev⟩ := x
    cases n with
    | zero =>
      unfold takeEvents
      simp only
      split
      · exact hinbox _ rest (hev ev s hg h)
      · rename_i hn
        exact ih _ (by simpa using hn) (hev ev s hg h)
    | succ n => exact hinbox s _ h

/-- What holds at the start and every step keeps, holds in every state reached. -/
theorem reaches_keeps {P : State → Prop} (hstep : ∀ s t, P s → step s = .next t → P t) {s t : State}
    (h : Reaches s t) (hs : P s) : P t := by
  induction h with
  | refl => exact hs
  | tail _ last ih => exact hstep _ _ ih last

end Sys2Proof.Machine
end

