-- ==== Sys2Proof/Tests/Slice0.lean ====
section
/-! SUPPORT. Tests: ill-formed terms, words written out from the encodings, one-step vectors of 95_test_vectors.md, and
for each statement with hypotheses, states and operands that meet them. -/

namespace Sys2Proof.Tests

open Sys2Proof Sys2Proof.Machine Sys2Proof.Claims

/-- `s` running, with instruction bytes at `pc`. -/
def ready (pc : Nat) (bytes : List Byte) (s : State) : State :=
  { s with run := .running, pc := pc, mem := s.mem.load pc bytes }

/-- The state after one step. -/
def after (s : State) : State :=
  match step s with
  | .next t => t
  | .fault _ => State.reset
  | .refused _ => State.reset

/-! ## Well-formed instructions: the one check, and the terms it refuses (R77, R79) -/

theorem test_wf_refuses : (Instr.undefined 0x00).wf = false ∧ (Instr.undefined 0x77).wf = false := by decide
theorem test_wf_accepts : (Instr.undefined 0x76).wf = true ∧ Instr.movMA.wf = true := by decide

/-! ## Words written bit by bit from 30_encoding.md section 2 (R71 to R75, R78) -/

/-- 01 ddd sss: MOV B,A; MOV M,H; MOV A,M. -/
theorem test_decode_mov : decode [0b01_000_111] = .ok (.movBA, []) ∧ decode [0b01_110_100] = .ok (.movMH, []) ∧
    decode [0b01_111_110] = .ok (.movAM, []) := ⟨rfl, rfl, rfl⟩
/-- 00 ddd 110 data: MVI M; 00 rp 0001 data data, the low byte first: LXI SP. -/
theorem test_decode_immediate : decode [0b00_110_110, 0xAB] = .ok (.mviM 0xAB, []) ∧
    decode [0b00_11_0001, 0x34, 0x12] = .ok (.lxiSp 0x1234, []) := ⟨rfl, rfl⟩
/-- 00 rp 0010 and 00 rp 1010 for rp 0 and 1; the four direct addresses. -/
theorem test_decode_loads : decode [0b00_01_0010] = .ok (.staxD, []) ∧ decode [0b00_00_1010] = .ok (.ldaxB, []) ∧
    decode [0b00_100_010, 0xFE, 0xCA] = .ok (.shld 0xCAFE, []) ∧
    decode [0b00_111_010, 0xFE, 0xCA] = .ok (.lda 0xCAFE, []) := ⟨rfl, rfl, rfl, rfl⟩
/-- 00 ddd 100, 00 ddd 101, 00 rp 0011, 00 rp 1011: INR M, DCR E, INX D, DCX SP. -/
theorem test_decode_step : decode [0b00_110_100] = .ok (.inrM, []) ∧ decode [0b00_011_101] = .ok (.dcrE, []) ∧
    decode [0b00_01_0011] = .ok (.inxD, []) ∧ decode [0b00_11_1011] = .ok (.dcxSp, []) := ⟨rfl, rfl, rfl, rfl⟩
/-- 00 rp 1001: DAD H. -/
theorem test_decode_dad : decode [0b00_10_1001] = .ok (.dadH, []) := rfl
/-- 10 alu sss and 11 alu 110 data: SBB L, CMP M, ADC A; ACI, CPI. -/
theorem test_decode_alu : decode [0b10_011_101] = .ok (.sbbL, []) ∧ decode [0b10_111_110] = .ok (.cmpM, []) ∧
    decode [0b10_001_111] = .ok (.adcA, []) ∧ decode [0b11_001_110, 0x80] = .ok (.aci 0x80, []) ∧
    decode [0b11_111_110, 0x41] = .ok (.cpi 0x41, []) := ⟨rfl, rfl, rfl, rfl, rfl⟩
/-- The logical operations of the same patterns, and the accumulator column 00 xxx 111: XRA C, ORI; RAL, CMA. -/
theorem test_decode_logic : decode [0b10_101_001] = .ok (.xraC, []) ∧ decode [0b11_110_110, 0x0F] = .ok (.ori 0x0F, []) ∧
    decode [0b00_010_111] = .ok (.ral, []) ∧ decode [0b00_101_111] = .ok (.cma, []) := ⟨rfl, rfl, rfl, rfl⟩
/-- 11 ccc 010, 11 ccc 100, 11 ccc 000, 11 nnn 111: JPE, CM, RNC, RST 5. -/
theorem test_decode_transfer : decode [0b11_101_010, 0x34, 0x12] = .ok (.jpe 0x1234, []) ∧
    decode [0b11_111_100, 0x34, 0x12] = .ok (.cm 0x1234, []) ∧ decode [0b11_010_000] = .ok (.rnc, []) ∧
    decode [0b11_101_111] = .ok (.rst5, []) := ⟨rfl, rfl, rfl, rfl⟩
/-- 11 rp 0101 and 11 rp 0001: PUSH PSW, POP H. -/
theorem test_decode_stack : decode [0b11_11_0101] = .ok (.pushPsw, []) ∧ decode [0b11_10_0001] = .ok (.popH, []) :=
  ⟨rfl, rfl⟩
/-- The fixed bytes D3, DB, F3, FB, 00, 08. -/
theorem test_decode_misc : decode [0xD3, 0x02] = .ok (.outPort 0x02, []) ∧ decode [0xDB, 0x01] = .ok (.inPort 0x01, []) ∧
    decode [0xF3] = .ok (.di, []) ∧ decode [0xFB] = .ok (.ei, []) ∧ decode [0x00] = .ok (.nop, []) ∧
    decode [0x08] = .ok (.nop08, []) := ⟨rfl, rfl, rfl, rfl, rfl, rfl⟩
/-- 76 is not HLT here but undefined (R79), and an instruction cut short is refused by name. -/
theorem test_decode_refuses : decode [0x76] = .ok (.undefined 0x76, []) ∧ decode [] = .error .noOpcode ∧
    decode [0xC3, 0x34] = .error (.missingOperand 0xC3) := ⟨rfl, rfl, rfl⟩

/-- A table word's first byte is its bits 7 to 0; operand bytes the table gives no bits are 0. -/
theorem test_tableWord : decodeTableWord 8 0x47 = some .movBA ∧ decodeTableWord 24 0x1234CA = some (.jz 0x1234) ∧
    decodeTableWord 8 0xC3 = some (.jmp 0x0000) := by decide
/-- The very next step after reset runs the placed instruction. -/
theorem test_withFetchWord : (after (State.reset.withFetchWord 16 0x5A3E)).a = 0x5A ∧
    (after (State.reset.withFetchWord 8 0x76)).run = .halted (.undefinedOpcode 0x0000 0x76) := by decide

/-! ## One step: rows of 95_test_vectors.md section 2, by their names there -/

theorem test_V40_1 :
    let t := after (ready 0x0100 [0x47] { State.reset with a := 0x5A })
    (t.b, t.pc, t.flags) = (0x5A, 0x0101, 0x02) := by decide

theorem test_V40_3 :
    let t := after (ready 0x0100 [0x77] { State.reset with a := 0x99, h := 0x20, l := 0x10 })
    (t.pc, t.flags, t.mem.read 0x2010) = (0x0101, 0x02, 0x99) := by decide

theorem test_V40_4 :
    let t := after (ready 0x0100 [0x7E] { State.reset with h := 0x20, l := 0x10, mem := [(0x2010, 0x77)] })
    (t.a, t.pc, t.flags) = (0x77, 0x0101, 0x02) := by decide

theorem test_V40_5 :
    let t := after (ready 0x0100 [0x66] { State.reset with h := 0x20, l := 0x10, mem := [(0x2010, 0x30)] })
    (t.h, t.pc, t.flags) = (0x30, 0x0101, 0x02) := by decide

theorem test_V40_6 :
    let t := after (ready 0x0100 [0x74] { State.reset with h := 0x20, l := 0x10 })
    (t.pc, t.flags, t.mem.read 0x2010) = (0x0101, 0x02, 0x20) := by decide

theorem test_V40_8 :
    let t := after (ready 0x0100 [0x36, 0xAB] { State.reset with h := 0x30, l := 0x00 })
    (t.pc, t.flags, t.mem.read 0x3000) = (0x0102, 0x02, 0xAB) := by decide

theorem test_V40_9 :
    let t := after (ready 0xFFFF [0x3E] State.reset)
    (t.pc, t.flags, t.run) = (0xFFFF, 0x02, .halted (.outOfBounds 65536)) := by decide

theorem test_V40_10 :
    let t := after (ready 0x0100 [0x31, 0x34, 0x12] State.reset)
    (t.sp, t.pc, t.flags) = (0x1234, 0x0103, 0x02) := by decide

theorem test_V40_11 :
    let t := after (ready 0x0100 [0x21, 0x00, 0x20] { State.reset with h := 0xFF, l := 0xFF })
    (t.h, t.l, t.pc, t.flags) = (0x20, 0x00, 0x0103, 0x02) := by decide

theorem test_V40_12 :
    let t := after (ready 0xFFFD [0x01, 0xCD, 0xAB] State.reset)
    (t.b, t.c, t.pc, t.flags) = (0xAB, 0xCD, 65536, 0x02) := by decide

theorem test_V40_13 :
    let t := after (ready 0xFFFE [0x01, 0xCD] State.reset)
    (t.pc, t.flags, t.run) = (0xFFFE, 0x02, .halted (.outOfBounds 65536)) := by decide

theorem test_V40_14 :
    let t := after (ready 0x0100 [0x3A, 0x00, 0x20] { State.reset with mem := [(0x2000, 0x42)] })
    (t.a, t.pc, t.flags) = (0x42, 0x0103, 0x02) := by decide

theorem test_V40_15 :
    let t := after (ready 0x0100 [0x32, 0xFF, 0xFF] { State.reset with a := 0x11 })
    (t.pc, t.flags, t.mem.read 0xFFFF) = (0x0103, 0x02, 0x11) := by decide

theorem test_V40_16 :
    let t := after (ready 0x0100 [0x2A, 0x00, 0x20] { State.reset with mem := [(0x2000, 0x34), (0x2001, 0x12)] })
    (t.h, t.l, t.pc, t.flags) = (0x12, 0x34, 0x0103, 0x02) := by decide

theorem test_V40_17 :
    let t := after (ready 0x0100 [0x2A, 0xFF, 0xFF] { State.reset with
      h := 0x01, l := 0x02, mem := [(0xFFFF, 0x99)] })
    (t.pc, t.flags, t.run) = (0x0100, 0x02, .halted (.outOfBounds 65536)) := by decide

theorem test_V40_18 :
    let t := after (ready 0x0100 [0x22, 0x00, 0x20] { State.reset with h := 0xAB, l := 0xCD })
    (t.pc, t.flags, t.mem.read 0x2000, t.mem.read 0x2001) = (0x0103, 0x02, 0xCD, 0xAB) := by decide

theorem test_V40_19 :
    let t := after (ready 0x0100 [0x22, 0xFF, 0xFF] { State.reset with h := 0xAB, l := 0xCD })
    (t.pc, t.flags, t.run) = (0x0100, 0x02, .halted (.outOfBounds 65536)) := by decide

theorem test_V40_21 :
    let t := after (ready 0x0100 [0x0A] { State.reset with b := 0x20, c := 0x05, mem := [(0x2005, 0x5C)] })
    (t.a, t.pc, t.flags) = (0x5C, 0x0101, 0x02) := by decide

theorem test_V40_22 :
    let t := after (ready 0x0100 [0x1A] { State.reset with d := 0x20, e := 0x06, mem := [(0x2006, 0x6D)] })
    (t.a, t.pc, t.flags) = (0x6D, 0x0101, 0x02) := by decide

theorem test_V40_23 :
    let t := after (ready 0x0100 [0x02] { State.reset with a := 0x7E, b := 0x20, c := 0x05 })
    (t.pc, t.flags, t.mem.read 0x2005) = (0x0101, 0x02, 0x7E) := by decide

theorem test_V40_24 :
    let t := after (ready 0x0100 [0x12] { State.reset with a := 0x7E, d := 0xFF, e := 0xFF })
    (t.pc, t.flags, t.mem.read 0xFFFF) = (0x0101, 0x02, 0x7E) := by decide

theorem test_V40_25 :
    let t := after (ready 0x0100 [0xEB] { State.reset with d := 0x11, e := 0x22, h := 0x33, l := 0x44 })
    (t.d, t.e, t.h, t.l, t.pc, t.flags) = (0x33, 0x44, 0x11, 0x22, 0x0101, 0x02) := by decide

theorem test_V40_26 :
    let t := after (ready 0x0100 [0xE3] { State.reset with
      h := 0xAA, l := 0xBB, sp := 0x3000, mem := [(0x3000, 0x11), (0x3001, 0x22)] })
    (t.h, t.l, t.pc, t.flags, t.mem.read 0x3000, t.mem.read 0x3001) =
      (0x22, 0x11, 0x0101, 0x02, 0xBB, 0xAA) := by decide

theorem test_V40_27 :
    let t := after (ready 0x0100 [0xE3] { State.reset with
      h := 0xAA, l := 0xBB, sp := 0xFFFF, mem := [(0xFFFF, 0x11)] })
    (t.pc, t.flags, t.run) = (0x0100, 0x02, .halted (.outOfBounds 65536)) := by decide

theorem test_V40_28 :
    let t := after (ready 0x0100 [0xF9] { State.reset with h := 0x40, l := 0x00 })
    (t.sp, t.pc, t.flags) = (0x4000, 0x0101, 0x02) := by decide

theorem test_V40_29 :
    let t := after (ready 0x0100 [0xE9] { State.reset with h := 0x12, l := 0x34 })
    (t.pc, t.flags) = (0x1234, 0x02) := by decide

theorem test_V41_1 :
    let t := after (ready 0x0100 [0x3C] { State.reset with a := 0xFF, flags := 0x03 })
    (t.a, t.pc, t.flags) = (0x00, 0x0101, 0x57) := by decide

theorem test_V41_2 :
    let t := after (ready 0x0100 [0x04] { State.reset with b := 0x7F })
    (t.b, t.pc, t.flags) = (0x80, 0x0101, 0x92) := by decide

theorem test_V41_3 :
    let t := after (ready 0x0100 [0x0C] { State.reset with c := 0x0F })
    (t.c, t.pc, t.flags) = (0x10, 0x0101, 0x12) := by decide

theorem test_V41_4 :
    let t := after (ready 0x0100 [0x3C] { State.reset with a := 0x05 })
    (t.a, t.pc, t.flags) = (0x06, 0x0101, 0x06) := by decide

theorem test_V41_5 :
    let t := after (ready 0x0100 [0x34] { State.reset with h := 0x20, l := 0x00, mem := [(0x2000, 0xFF)] })
    (t.pc, t.flags, t.mem.read 0x2000) = (0x0101, 0x56, 0x00) := by decide

theorem test_V41_6 :
    let t := after (ready 0x0100 [0x3D] { State.reset with a := 0x00, flags := 0x03 })
    (t.a, t.pc, t.flags) = (0xFF, 0x0101, 0x97) := by decide

theorem test_V41_7 :
    let t := after (ready 0x0100 [0x05] { State.reset with b := 0x01 })
    (t.b, t.pc, t.flags) = (0x00, 0x0101, 0x46) := by decide

theorem test_V41_8 :
    let t := after (ready 0x0100 [0x15] { State.reset with d := 0x10 })
    (t.d, t.pc, t.flags) = (0x0F, 0x0101, 0x16) := by decide

theorem test_V41_9 :
    let t := after (ready 0x0100 [0x1D] { State.reset with e := 0x80 })
    (t.e, t.pc, t.flags) = (0x7F, 0x0101, 0x12) := by decide

theorem test_V41_10 :
    let t := after (ready 0x0100 [0x35] { State.reset with h := 0x20, l := 0x00, mem := [(0x2000, 0x00)] })
    (t.pc, t.flags, t.mem.read 0x2000) = (0x0101, 0x96, 0xFF) := by decide

theorem test_V41_11 :
    let t := after (ready 0x0100 [0x03] { State.reset with b := 0xFF, c := 0xFF, flags := 0xD7 })
    (t.b, t.c, t.pc, t.flags) = (0x00, 0x00, 0x0101, 0xD7) := by decide

theorem test_V41_12 :
    let t := after (ready 0x0100 [0x33] { State.reset with sp := 0xFFFF })
    (t.sp, t.pc, t.flags) = (0x0000, 0x0101, 0x02) := by decide

theorem test_V41_13 :
    let t := after (ready 0x0100 [0x23] { State.reset with h := 0x00, l := 0xFF })
    (t.h, t.l, t.pc, t.flags) = (0x01, 0x00, 0x0101, 0x02) := by decide

theorem test_V41_14 :
    let t := after (ready 0x0100 [0x2B] { State.reset with h := 0x00, l := 0x00, flags := 0x02 })
    (t.h, t.l, t.pc, t.flags) = (0xFF, 0xFF, 0x0101, 0x02) := by decide

theorem test_V41_15 :
    let t := after (ready 0x0100 [0x3B] { State.reset with sp := 0x0000 })
    (t.sp, t.pc, t.flags) = (0xFFFF, 0x0101, 0x02) := by decide

theorem test_V41_16 :
    let t := after (ready 0x0100 [0x1B] { State.reset with d := 0x01, e := 0x00 })
    (t.d, t.e, t.pc, t.flags) = (0x00, 0xFF, 0x0101, 0x02) := by decide

theorem test_V42_1 :
    let t := after (ready 0x0100 [0x09] { State.reset with
      b := 0x00, c := 0x01, h := 0xFF, l := 0xFF, flags := 0xD6 })
    (t.h, t.l, t.pc, t.flags) = (0x00, 0x00, 0x0101, 0xD7) := by decide

theorem test_V42_2 :
    let t := after (ready 0x0100 [0x29] { State.reset with h := 0x80, l := 0x00 })
    (t.h, t.pc, t.flags) = (0x00, 0x0101, 0x03) := by decide

theorem test_V42_3 :
    let t := after (ready 0x0100 [0x29] { State.reset with h := 0x12, l := 0x34, flags := 0x03 })
    (t.h, t.l, t.pc, t.flags) = (0x24, 0x68, 0x0101, 0x02) := by decide

theorem test_V42_4 :
    let t := after (ready 0x0100 [0x39] { State.reset with h := 0x00, l := 0x01, sp := 0xFFFE })
    (t.h, t.l, t.pc, t.flags) = (0xFF, 0xFF, 0x0101, 0x02) := by decide

theorem test_V42_5 :
    let t := after (ready 0x0100 [0x19] { State.reset with d := 0xF0, e := 0x00, h := 0x10, l := 0x00 })
    (t.h, t.pc, t.flags) = (0x00, 0x0101, 0x03) := by decide

theorem test_V42_6 :
    let t := after (ready 0x0100 [0x19] { State.reset with
      d := 0xEF, e := 0xFF, h := 0x10, l := 0x00, flags := 0x03 })
    (t.h, t.l, t.pc, t.flags) = (0xFF, 0xFF, 0x0101, 0x02) := by decide

theorem test_V43_1 :
    let t := after (ready 0x0100 [0x80] { State.reset with a := 0xFF, b := 0x01 })
    (t.a, t.pc, t.flags) = (0x00, 0x0101, 0x57) := by decide

theorem test_V43_2 :
    let t := after (ready 0x0100 [0x87] { State.reset with a := 0x80 })
    (t.a, t.pc, t.flags) = (0x00, 0x0101, 0x47) := by decide

theorem test_V43_3 :
    let t := after (ready 0x0100 [0x81] { State.reset with a := 0x3A, c := 0x46, flags := 0x03 })
    (t.a, t.pc, t.flags) = (0x80, 0x0101, 0x92) := by decide

theorem test_V43_4 :
    let t := after (ready 0x0100 [0x86] { State.reset with a := 0x70, h := 0x20, l := 0x00, mem := [(0x2000, 0x10)] })
    (t.a, t.pc, t.flags) = (0x80, 0x0101, 0x82) := by decide

theorem test_V43_6 :
    let t := after (ready 0x0100 [0x89] { State.reset with a := 0xFF, c := 0xFF, flags := 0x03 })
    (t.pc, t.flags) = (0x0101, 0x97) := by decide

theorem test_V43_7 :
    let t := after (ready 0x0100 [0x89] { State.reset with a := 0xFF, c := 0x00, flags := 0x03 })
    (t.a, t.pc, t.flags) = (0x00, 0x0101, 0x57) := by decide

theorem test_V43_8 :
    let t := after (ready 0x0100 [0x8E] { State.reset with
      a := 0x01, h := 0x20, l := 0x00, flags := 0x02, mem := [(0x2000, 0x01)] })
    (t.a, t.pc, t.flags) = (0x02, 0x0101, 0x02) := by decide

theorem test_V43_9 :
    let t := after (ready 0x0100 [0x97] { State.reset with a := 0x5A, flags := 0x03 })
    (t.a, t.pc, t.flags) = (0x00, 0x0101, 0x46) := by decide

theorem test_V43_11 :
    let t := after (ready 0x0100 [0x90] { State.reset with a := 0x80, b := 0x01 })
    (t.a, t.pc, t.flags) = (0x7F, 0x0101, 0x12) := by decide

theorem test_V43_12 :
    let t := after (ready 0x0100 [0x96] { State.reset with a := 0x10, h := 0x20, l := 0x00, mem := [(0x2000, 0x10)] })
    (t.a, t.pc, t.flags) = (0x00, 0x0101, 0x46) := by decide

theorem test_V43_13 :
    let t := after (ready 0x0100 [0x98] { State.reset with a := 0x00, b := 0xFF, flags := 0x03 })
    (t.pc, t.flags) = (0x0101, 0x57) := by decide

theorem test_V43_14 :
    let t := after (ready 0x0100 [0x9F] { State.reset with a := 0x42, flags := 0x03 })
    (t.a, t.pc, t.flags) = (0xFF, 0x0101, 0x97) := by decide

theorem test_V43_16 :
    let t := after (ready 0x0100 [0x9E] { State.reset with
      a := 0x10, h := 0x20, l := 0x00, flags := 0x03, mem := [(0x2000, 0x0F)] })
    (t.a, t.pc, t.flags) = (0x00, 0x0101, 0x56) := by decide

theorem test_V43_18 :
    let t := after (ready 0x0100 [0xB8] { State.reset with a := 0x05, b := 0x06 })
    (t.pc, t.flags) = (0x0101, 0x97) := by decide

theorem test_V43_19 :
    let t := after (ready 0x0100 [0xBF] { State.reset with a := 0x99, flags := 0x03 })
    (t.pc, t.flags) = (0x0101, 0x46) := by decide

theorem test_V43_21 :
    let t := after (ready 0x0100 [0xC6, 0x01] { State.reset with a := 0xFF })
    (t.a, t.pc, t.flags) = (0x00, 0x0102, 0x57) := by decide

theorem test_V43_23 :
    let t := after (ready 0x0100 [0xCE, 0x00] { State.reset with a := 0xFF, flags := 0x03 })
    (t.a, t.pc, t.flags) = (0x00, 0x0102, 0x57) := by decide

theorem test_V43_24 :
    let t := after (ready 0x0100 [0xD6, 0x01] { State.reset with a := 0x00 })
    (t.a, t.pc, t.flags) = (0xFF, 0x0102, 0x97) := by decide

theorem test_V43_25 :
    let t := after (ready 0x0100 [0xDE, 0x00] { State.reset with a := 0x00, flags := 0x03 })
    (t.a, t.pc, t.flags) = (0xFF, 0x0102, 0x97) := by decide

theorem test_V43_26 :
    let t := after (ready 0x0100 [0xDE, 0xFF] { State.reset with a := 0xFF, flags := 0x03 })
    (t.pc, t.flags) = (0x0102, 0x97) := by decide

theorem test_V43_28 :
    let t := after (ready 0x0100 [0xFE, 0x42] { State.reset with a := 0x41 })
    (t.pc, t.flags) = (0x0102, 0x97) := by decide

theorem test_V43_29 :
    let t := after (ready 0x0100 [0xFE, 0x40] { State.reset with a := 0x41 })
    (t.pc, t.flags) = (0x0102, 0x02) := by decide

theorem test_V44_1 :
    let t := after (ready 0x0100 [0xA0] { State.reset with a := 0xF0, b := 0x0F, flags := 0x13 })
    (t.a, t.pc, t.flags) = (0x00, 0x0101, 0x46) := by decide

theorem test_V44_3 :
    let t := after (ready 0x0100 [0xA6] { State.reset with a := 0xFF, h := 0x20, l := 0x00, mem := [(0x2000, 0x3C)] })
    (t.a, t.pc, t.flags) = (0x3C, 0x0101, 0x06) := by decide

theorem test_V44_4 :
    let t := after (ready 0x0100 [0xAF] { State.reset with a := 0x5A, flags := 0x93 })
    (t.a, t.pc, t.flags) = (0x00, 0x0101, 0x46) := by decide

theorem test_V44_5 :
    let t := after (ready 0x0100 [0xA8] { State.reset with a := 0xFF, b := 0x0F })
    (t.a, t.pc, t.flags) = (0xF0, 0x0101, 0x86) := by decide

theorem test_V44_6 :
    let t := after (ready 0x0100 [0xAE] { State.reset with a := 0x55, h := 0x20, l := 0x00, mem := [(0x2000, 0xAA)] })
    (t.a, t.pc, t.flags) = (0xFF, 0x0101, 0x86) := by decide

theorem test_V44_7 :
    let t := after (ready 0x0100 [0xB0] { State.reset with a := 0x00, b := 0x00, flags := 0x03 })
    (t.pc, t.flags) = (0x0101, 0x46) := by decide

theorem test_V44_8 :
    let t := after (ready 0x0100 [0xB1] { State.reset with a := 0x80, c := 0x01, flags := 0x13 })
    (t.a, t.pc, t.flags) = (0x81, 0x0101, 0x86) := by decide

theorem test_V44_9 :
    let t := after (ready 0x0100 [0xB6] { State.reset with a := 0x01, h := 0x20, l := 0x00, mem := [(0x2000, 0x02)] })
    (t.a, t.pc, t.flags) = (0x03, 0x0101, 0x06) := by decide

theorem test_V44_10 :
    let t := after (ready 0x0100 [0xE6, 0x0F] { State.reset with a := 0x3C, flags := 0x13 })
    (t.a, t.pc, t.flags) = (0x0C, 0x0102, 0x06) := by decide

theorem test_V44_11 :
    let t := after (ready 0x0100 [0xEE, 0xFF] { State.reset with a := 0x00 })
    (t.a, t.pc, t.flags) = (0xFF, 0x0102, 0x86) := by decide

theorem test_V44_12 :
    let t := after (ready 0x0100 [0xF6, 0x80] { State.reset with a := 0x01 })
    (t.a, t.pc, t.flags) = (0x81, 0x0102, 0x86) := by decide

theorem test_V44_13 :
    let t := after (ready 0x0100 [0x2F] { State.reset with a := 0x55, flags := 0xD7 })
    (t.a, t.pc, t.flags) = (0xAA, 0x0101, 0xD7) := by decide

theorem test_V44_14 :
    let t := after (ready 0x0100 [0x2F] { State.reset with a := 0xFF })
    (t.a, t.pc, t.flags) = (0x00, 0x0101, 0x02) := by decide

theorem test_V44_15 :
    let t := after (ready 0x0100 [0x3F] { State.reset with flags := 0x02 })
    (t.pc, t.flags) = (0x0101, 0x03) := by decide

theorem test_V44_17 :
    let t := after (ready 0x0100 [0x37] { State.reset with flags := 0x02 })
    (t.pc, t.flags) = (0x0101, 0x03) := by decide

theorem test_V44_19 :
    let t := after (ready 0x0100 [0x07] { State.reset with a := 0x80 })
    (t.a, t.pc, t.flags) = (0x01, 0x0101, 0x03) := by decide

theorem test_V44_20 :
    let t := after (ready 0x0100 [0x07] { State.reset with a := 0x55, flags := 0x03 })
    (t.a, t.pc, t.flags) = (0xAA, 0x0101, 0x02) := by decide

theorem test_V44_21 :
    let t := after (ready 0x0100 [0x0F] { State.reset with a := 0x01 })
    (t.a, t.pc, t.flags) = (0x80, 0x0101, 0x03) := by decide

theorem test_V44_22 :
    let t := after (ready 0x0100 [0x0F] { State.reset with a := 0xAA, flags := 0x03 })
    (t.a, t.pc, t.flags) = (0x55, 0x0101, 0x02) := by decide

theorem test_V44_23 :
    let t := after (ready 0x0100 [0x17] { State.reset with a := 0x80, flags := 0x02 })
    (t.a, t.pc, t.flags) = (0x00, 0x0101, 0x03) := by decide

theorem test_V44_24 :
    let t := after (ready 0x0100 [0x17] { State.reset with a := 0x00, flags := 0x03 })
    (t.a, t.pc, t.flags) = (0x01, 0x0101, 0x02) := by decide

theorem test_V44_25 :
    let t := after (ready 0x0100 [0x1F] { State.reset with a := 0x01, flags := 0x03 })
    (t.a, t.pc, t.flags) = (0x80, 0x0101, 0x03) := by decide

theorem test_V44_27 :
    let t := after (ready 0x0100 [0x1F] { State.reset with a := 0x00, flags := 0x47 })
    (t.a, t.pc, t.flags) = (0x80, 0x0101, 0x46) := by decide

theorem test_V45_1 :
    let t := after (ready 0x0100 [0xC3, 0x00, 0x20] State.reset)
    (t.pc, t.flags) = (0x2000, 0x02) := by decide

theorem test_V45_3 :
    let t := after (ready 0x0100 [0xC2, 0x00, 0x20] { State.reset with flags := 0x02 })
    (t.pc, t.flags) = (0x2000, 0x02) := by decide

theorem test_V45_4 :
    let t := after (ready 0x0100 [0xC2, 0x00, 0x20] { State.reset with flags := 0x42 })
    (t.pc, t.flags) = (0x0103, 0x42) := by decide

theorem test_V45_5 :
    let t := after (ready 0x0100 [0xCA, 0x00, 0x20] { State.reset with flags := 0x42 })
    (t.pc, t.flags) = (0x2000, 0x42) := by decide

theorem test_V45_7 :
    let t := after (ready 0x0100 [0xD2, 0x00, 0x20] { State.reset with flags := 0x03 })
    (t.pc, t.flags) = (0x0103, 0x03) := by decide

theorem test_V45_8 :
    let t := after (ready 0x0100 [0xDA, 0x00, 0x20] { State.reset with flags := 0x03 })
    (t.pc, t.flags) = (0x2000, 0x03) := by decide

theorem test_V45_9 :
    let t := after (ready 0x0100 [0xE2, 0x00, 0x20] { State.reset with flags := 0x06 })
    (t.pc, t.flags) = (0x0103, 0x06) := by decide

theorem test_V45_10 :
    let t := after (ready 0x0100 [0xEA, 0x00, 0x20] { State.reset with flags := 0x06 })
    (t.pc, t.flags) = (0x2000, 0x06) := by decide

theorem test_V45_11 :
    let t := after (ready 0x0100 [0xF2, 0x00, 0x20] { State.reset with flags := 0x82 })
    (t.pc, t.flags) = (0x0103, 0x82) := by decide

theorem test_V45_12 :
    let t := after (ready 0x0100 [0xFA, 0x00, 0x20] { State.reset with flags := 0x82 })
    (t.pc, t.flags) = (0x2000, 0x82) := by decide

theorem test_V45_13 :
    let t := after (ready 0x0100 [0xCA, 0x34, 0x12] { State.reset with
      flags := 0x42, cfg := { Config.default with remap := [(0x1234, 0x5678)] } })
    (t.pc, t.flags) = (0x5678, 0x42) := by decide

theorem test_V45_15 :
    let t := after (ready 0x0100 [0xC3, 0x34, 0x12] { State.reset with
      cfg := { Config.default with remap := [(0x1234, 0x5678)] } })
    (t.pc, t.flags) = (0x1234, 0x02) := by decide

theorem test_V45_21 :
    let t := after (ready 0xFFFD [0xCD, 0x00, 0x20] { State.reset with sp := 0x4000 })
    (t.pc, t.flags, t.run) = (0xFFFD, 0x02, .halted (.outOfBounds 65536)) := by decide

theorem test_V45_22 :
    let t := after (ready 0x0100 [0xCD, 0x00, 0x20] { State.reset with sp := 0x0103 })
    (t.sp, t.pc, t.flags, t.mem.read 0x0101, t.mem.read 0x0102) = (0x0101, 0x2000, 0x02, 0x03, 0x01) := by decide

theorem test_V45_23 :
    let t := after (ready 0x0100 [0xC4, 0x00, 0x20] { State.reset with sp := 0x4000, flags := 0x42 })
    (t.pc, t.flags) = (0x0103, 0x42) := by decide

theorem test_V45_24 :
    let t := after (ready 0x0100 [0xC4, 0x00, 0x20] { State.reset with sp := 0x4000, flags := 0x02 })
    (t.sp, t.pc, t.flags, t.mem.read 0x3FFE, t.mem.read 0x3FFF) = (0x3FFE, 0x2000, 0x02, 0x03, 0x01) := by decide

theorem test_V45_25 :
    let t := after (ready 0x0100 [0xCC, 0x00, 0x20] { State.reset with sp := 0x4000, flags := 0x42 })
    (t.sp, t.pc, t.flags, t.mem.read 0x3FFE, t.mem.read 0x3FFF) = (0x3FFE, 0x2000, 0x42, 0x03, 0x01) := by decide

theorem test_V45_26 :
    let t := after (ready 0x0100 [0xDC, 0x00, 0x20] { State.reset with sp := 0x4000, flags := 0x03 })
    (t.sp, t.pc, t.flags, t.mem.read 0x3FFE, t.mem.read 0x3FFF) = (0x3FFE, 0x2000, 0x03, 0x03, 0x01) := by decide

theorem test_V45_27 :
    let t := after (ready 0x0100 [0xFC, 0x00, 0x20] { State.reset with sp := 0x0000, flags := 0x02 })
    (t.pc, t.flags) = (0x0103, 0x02) := by decide

theorem test_V45_28 :
    let t := after (ready 0x0100 [0xFC, 0x00, 0x20] { State.reset with sp := 0x0000, flags := 0x82 })
    (t.pc, t.flags, t.run) = (0x0100, 0x82, .halted (.outOfBounds (-1))) := by decide

theorem test_V45_29 :
    let t := after (ready 0x0100 [0xC9] { State.reset with sp := 0xFFFD, mem := [(0xFFFD, 0x03), (0xFFFE, 0x01)] })
    (t.sp, t.pc, t.flags) = (0xFFFF, 0x0103, 0x02) := by decide

theorem test_V45_32 :
    let t := after (ready 0x0100 [0xC9] { State.reset with
      sp := 0x3FFE, cfg := { Config.default with remap := [(0x1234, 0x5678)] }, mem := [(0x3FFE, 0x34), (0x3FFF, 0x12)] })
    (t.sp, t.pc, t.flags) = (0x4000, 0x5678, 0x02) := by decide

theorem test_V45_33 :
    let t := after (ready 0x0100 [0xC8] { State.reset with
      sp := 0x3FFE, flags := 0x42, cfg := { Config.default with remap := [(0x1234, 0x5678)] }, mem := [(0x3FFE, 0x34), (0x3FFF, 0x12)] })
    (t.sp, t.pc, t.flags) = (0x4000, 0x5678, 0x42) := by decide

theorem test_V45_34 :
    let t := after (ready 0x0100 [0xC8] { State.reset with
      sp := 0x3FFE, flags := 0x02, mem := [(0x3FFE, 0x34), (0x3FFF, 0x12)] })
    (t.pc, t.flags) = (0x0101, 0x02) := by decide

theorem test_V45_35 :
    let t := after (ready 0x0100 [0xC0] { State.reset with
      sp := 0x3FFE, flags := 0x02, cfg := { Config.default with remap := [(0x1234, 0x5678)] }, mem := [(0x3FFE, 0x34), (0x3FFF, 0x12)] })
    (t.sp, t.pc, t.flags) = (0x4000, 0x1234, 0x02) := by decide

theorem test_V45_36 :
    let t := after (ready 0x0100 [0xD8] { State.reset with sp := 0xFFFF, flags := 0x02 })
    (t.pc, t.flags) = (0x0101, 0x02) := by decide

theorem test_V45_37 :
    let t := after (ready 0x0100 [0xD8] { State.reset with sp := 0xFFFF, flags := 0x03 })
    (t.pc, t.flags, t.run) = (0x0100, 0x03, .halted (.outOfBounds 65536)) := by decide

theorem test_V45_38 :
    let t := after (ready 0x0100 [0xF8] { State.reset with
      sp := 0x3FFE, flags := 0x82, mem := [(0x3FFE, 0x00), (0x3FFF, 0x02)] })
    (t.sp, t.pc, t.flags) = (0x4000, 0x0200, 0x82) := by decide

theorem test_V45_39 :
    let t := after (ready 0x0123 [0xFF] { State.reset with sp := 0x4000 })
    (t.sp, t.pc, t.flags, t.mem.read 0x3FFE, t.mem.read 0x3FFF) = (0x3FFE, 0x0038, 0x02, 0x24, 0x01) := by decide

theorem test_V45_41 :
    let t := after (ready 0x2000 [0xEF] { State.reset with sp := 0x4000 })
    (t.sp, t.pc, t.flags, t.mem.read 0x3FFE, t.mem.read 0x3FFF) = (0x3FFE, 0x0028, 0x02, 0x01, 0x20) := by decide

theorem test_V45_42 :
    let t := after (ready 0xFFFF [0xFF] { State.reset with sp := 0x4000 })
    (t.pc, t.flags, t.run) = (0xFFFF, 0x02, .halted (.outOfBounds 65536)) := by decide

theorem test_V45_43 :
    let t := after (ready 0x0123 [0xD7] { State.reset with sp := 0x0001 })
    (t.pc, t.flags, t.run) = (0x0123, 0x02, .halted (.outOfBounds (-1))) := by decide

theorem test_V46_1 :
    let t := after (ready 0x0100 [0xC5] { State.reset with b := 0x12, c := 0x34, sp := 0xFFFF })
    (t.sp, t.pc, t.flags, t.mem.read 0xFFFD, t.mem.read 0xFFFE) = (0xFFFD, 0x0101, 0x02, 0x34, 0x12) := by decide

theorem test_V46_2 :
    let t := after (ready 0x0100 [0xD5] { State.reset with d := 0x56, e := 0x78, sp := 0x0002 })
    (t.sp, t.pc, t.flags, t.mem.read 0x0000, t.mem.read 0x0001) = (0x0000, 0x0101, 0x02, 0x78, 0x56) := by decide

theorem test_V46_4 :
    let t := after (ready 0x0100 [0xE5] { State.reset with h := 0x9A, l := 0xBC, sp := 0x0000 })
    (t.pc, t.flags, t.run) = (0x0100, 0x02, .halted (.outOfBounds (-1))) := by decide

theorem test_V46_7 :
    let t := after (ready 0x0100 [0xC1] { State.reset with sp := 0x3FFE, mem := [(0x3FFE, 0x34), (0x3FFF, 0x12)] })
    (t.b, t.c, t.sp, t.pc, t.flags) = (0x12, 0x34, 0x4000, 0x0101, 0x02) := by decide

theorem test_V46_8 :
    let t := after (ready 0x0100 [0xD1] { State.reset with sp := 0xFFFE, mem := [(0xFFFE, 0x78), (0xFFFF, 0x56)] })
    (t.d, t.e, t.sp, t.pc, t.flags) = (0x56, 0x78, 0x0000, 0x0101, 0x02) := by decide

theorem test_V46_9 :
    let t := after (ready 0x0100 [0xE1] { State.reset with sp := 0xFFFF, mem := [(0xFFFF, 0x56)] })
    (t.pc, t.flags, t.run) = (0x0100, 0x02, .halted (.outOfBounds 65536)) := by decide

theorem test_V46_11 :
    let t := after (ready 0x0100 [0xF1] { State.reset with
      sp := 0x3FFE, flags := 0x02, mem := [(0x3FFE, 0xFF), (0x3FFF, 0x99)] })
    (t.a, t.sp, t.pc, t.flags) = (0x99, 0x4000, 0x0101, 0xD7) := by decide

theorem test_V46_12 :
    let t := after (ready 0x0100 [0xF1] { State.reset with
      sp := 0x3FFE, flags := 0xD7, mem := [(0x3FFE, 0x00), (0x3FFF, 0x01)] })
    (t.a, t.sp, t.pc, t.flags) = (0x01, 0x4000, 0x0101, 0x02) := by decide

theorem test_V47_1 :
    let t := after (ready 0x0100 [0xDB, 0x01] { State.reset with replies := [.byte 0x41] })
    (t.a, t.pc, t.flags, t.io) = (0x41, 0x0102, 0x02, [.read 0x0101 0x01 0x41]) := by decide

theorem test_V47_2 :
    let t := after (ready 0x0100 [0xDB, 0xFF] { State.reset with a := 0x55, flags := 0xD7, sw := 0x00EE })
    (t.a, t.pc, t.flags, t.io) = (0x00, 0x0102, 0xD7, [.read 0x0101 0xFF 0x00]) := by decide

theorem test_V47_6 :
    let t := after (ready 0x0100 [0xD3, 0x00] { State.reset with a := 0x7F })
    (t.pc, t.flags, t.io) = (0x0102, 0x02, [.write 0x00 0x7F]) := by decide

theorem test_V48_1 :
    let t := after (ready 0x0100 [0xF3] { State.reset with inte := true })
    (t.pc, t.flags, t.inte) = (0x0101, 0x02, false) := by decide

theorem test_V48_2 :
    let t := after (ready 0x0100 [0xFB] State.reset)
    (t.pc, t.flags, t.inte) = (0x0101, 0x02, true) := by decide

theorem test_V48_4 :
    let t := after (ready 0x0100 [0x00] { State.reset with a := 0x11, flags := 0xD7 })
    (t.pc, t.flags) = (0x0101, 0xD7) := by decide

theorem test_V48_5 :
    let t := after (ready 0x0100 [0x08] { State.reset with a := 0x11, flags := 0xD7 })
    (t.pc, t.flags) = (0x0101, 0xD7) := by decide

theorem test_V48_6 :
    let t := after (ready 0xFFFF [0x00] State.reset)
    (t.pc, t.flags) = (65536, 0x02) := by decide

theorem test_V48_14 :
    let t := after (ready 0x0100 [0x76] State.reset)
    (t.pc, t.flags, t.run) = (0x0100, 0x02, .halted (.undefinedOpcode 0x0100 0x76)) := by decide

theorem test_V48_21 :
    let t := after (ready 0xFFFF [0xCB] State.reset)
    (t.pc, t.flags, t.run) = (0xFFFF, 0x02, .halted (.undefinedOpcode 0xFFFF 0xCB)) := by decide

/-! ## The Controller: one step each (95_test_vectors.md section 3, program P8) -/

/-- V60.6: with SSTEP up, a Step of the running core ends in SingleStepWait. -/
theorem test_V60_6 : let t := after (ready 0x0000 [0x3E, 0x05] { State.reset with sstep := true })
    (t.run, t.a, t.pc) = (.singleStepWait, 0x05, 0x0002) := by decide
/-- V60.8: a breakpoint and single-step at the same boundary. -/
theorem test_V60_8 : let t := after (ready 0x0000 [0x3E, 0x05] { State.reset with sstep := true, bp := [0x0002] })
    (t.run, t.pc) = (.breakpointHit 0x0002, 0x0002) := by decide
/-- V60.9: a granted instruction ends in SingleStepWait although SSTEP is down, and the grant is used up. -/
theorem test_V60_9 :
    let s := { ready 0x0002 [0x3C] State.reset with a := 0x05, run := .breakpointHit 0x0002, bp := [0x0002], grant := true }
    ((after s).run, (after s).grant, (after s).a) = (.singleStepWait, false, 0x06) := by decide
/-- V60.12: `stop` halts in Idle too, and `start` does nothing then. -/
theorem test_V60_12 : let t := after { State.reset with inbox := [(0, .stop), (0, .start)] }
    (t.run, t.inbox) = (.halted .requested, []) := by decide
/-- V60.14: `reset` at a breakpoint keeps BP and clears memory. -/
theorem test_V60_14 : let t := after { State.reset with
      run := .breakpointHit 0x0003, bp := [0x0003], a := 0x06, pc := 3, mem := [(0x2000, 0x06)], inbox := [(0, .reset)] }
    (t.run, t.bp, t.a, t.pc, t.mem) = (.idle, [0x0003], 0x00, 0, []) := by decide
/-- V60.17: six addresses are refused. -/
theorem test_V60_17 : let t := after { State.reset with
      bp := [0x0003], inbox := [(0, .setBreakpoints [1, 2, 3, 4, 5, 6])] }
    (t.run, t.bp) = (.idle, [0x0003]) := by decide
/-- The parts of a launch (R303): `load_rom` and `start` at one boundary. -/
theorem test_launch : let t := after { State.reset with inbox := [(0, .loadRom [0x3E, 0x05]), (0, .start)] }
    (t.run, t.mem) = (.running, [(0, 0x3E), (1, 0x05)]) := by decide
/-- R230: while the Bridge does not answer, nothing changes but that one wait is over; then the answer comes. Port 0xFF may
wait as well, and then gives the switches (R286). -/
theorem test_wait :
    let t := after (ready 0x0000 [0xDB, 0x01] { State.reset with replies := [.later, .byte 0x41] })
    let u := after (ready 0x0000 [0xDB, 0xFF] { State.reset with replies := [.later, .byte 0x41], sw := 0x9A00 })
    (t.pc, t.replies, (after t).pc, (after t).a) = (0x0000, [.byte 0x41], 0x0002, 0x41) ∧
    (u.pc, u.replies, (after u).a, (after u).replies) = (0x0000, [.byte 0x41], 0x9A, []) := by decide
/-- R230: an IN from 0xFF that is answered does not keep the IN behind it from waiting. -/
theorem test_wait_afterSense :
    let s := ready 0x0000 [0xDB, 0xFF, 0xDB, 0x01] { State.reset with replies := [.byte 0x00, .later], sw := 0x9A00 }
    ((after s).a, (after s).pc, (after (after s)).a, (after (after s)).pc) = (0x9A, 0x0002, 0x9A, 0x0002) := by decide
/-- R306: the ten bytes of the patch. -/
theorem test_usrPatch : let t := hostEvent (.applyUsrPatch #v[1, 2, 3, 4, 5, 6, 7, 8]) State.reset
    (t.mem.read 0x0043, t.mem.read 0x0044, t.mem.read 0x0FF0, t.mem.read 0x0FF7) = (0xF0, 0x0F, 1, 8) := by decide

/-! ## Witnesses: for each statement with hypotheses, states and operands that meet them -/

theorem witness_EncodeThenDecode : (Instr.jmp 0xFFFF).wf = true ∧ (Instr.undefined 0xFD).wf = true := by decide
theorem witness_DecodeThenEncode : decode [0xCA, 0x34, 0x12, 0x99] = .ok (.jz 0x1234, [0x99]) ∧
    decode [0x76, 0x00] = .ok (.undefined 0x76, [0x00]) := ⟨rfl, rfl⟩

/-- The running core, with an instruction that ends at address 65535. -/
theorem witness_StepRunsDecodedInstruction_running :
    let s := ready 65533 [0xC3, 0x34, 0x12] State.reset
    s.pc + [0xC3, 0x34, 0x12].length ≤ 65536 ∧
    (∀ k < 3, ([0xC3, 0x34, 0x12] : List Byte)[k]? = some (s.mem.read (s.pc + k))) ∧
    decode [0xC3, 0x34, 0x12] = .ok (.jmp 0x1234, []) ∧ implemented s.cfg 0xC3 = true ∧ s.run = .running :=
  ⟨by decide, by decide, rfl, by decide, rfl⟩
/-- A granted core, and an undefined opcode. -/
theorem witness_StepRunsDecodedInstruction_granted :
    let s := { ready 65535 [0x76] State.reset with run := .singleStepWait, grant := true }
    s.pc + [0x76].length ≤ 65536 ∧ (∀ k < 1, ([0x76] : List Byte)[k]? = some (s.mem.read (s.pc + k))) ∧
    decode [0x76] = .ok (.undefined 0x76, []) ∧ s.run.isWait = true ∧ s.grant = true :=
  ⟨by decide, by decide, rfl, rfl, rfl⟩
theorem witness_OpcodeFetchPastEndHalts : ∃ s : State, 65536 ≤ s.pc ∧ s.active = true :=
  ⟨{ State.reset with pc := 65536, run := .running }, by decide⟩
theorem witness_UndefinedOpcodeHalts_table :
    let s := ready 65535 [0x76] State.reset
    s.pc < 65536 ∧ implemented s.cfg (s.mem.read s.pc) = false ∧ s.active = true ∧ s.cfg.unimplemented = [] := by decide
theorem witness_UndefinedOpcodeHalts_smaller :
    let s := ready 0 [0x3C] { State.reset with cfg := { Config.default with unimplemented := [0x3C] } }
    s.pc < 65536 ∧ implemented s.cfg (s.mem.read s.pc) = false ∧ 0x3C ∈ s.cfg.unimplemented := by decide
theorem witness_OperandFetchPastEndHalts_one :
    let s := ready 65535 [0x3E] State.reset
    s.pc < 65536 ∧ implemented s.cfg (s.mem.read s.pc) = true ∧ 65536 ≤ s.pc + operandCount (s.mem.read s.pc) := by decide
theorem witness_OperandFetchPastEndHalts_two :
    let s := ready 65534 [0xC2, 0x00] State.reset
    s.pc < 65536 ∧ implemented s.cfg (s.mem.read s.pc) = true ∧ 65536 ≤ s.pc + operandCount (s.mem.read s.pc) := by decide

theorem witness_HaltChangesOnlyRun_exec :
    let s := { State.reset with run := .running, sp := 0x0001 }
    exec .pushB s = .next { s with run := .halted (.outOfBounds (-1)) } ∧
    RunState.halted (.outOfBounds (-1)) ≠ s.run := ⟨rfl, by decide⟩
theorem witness_HaltChangesOnlyRun_step :
    let s := { State.reset with run := .running, pc := 65536 }
    instructionStep s = .next { s with run := .halted (.outOfBounds 65536) } ∧
    RunState.halted (.outOfBounds 65536) ≠ s.run := ⟨rfl, by decide⟩
/-- `MemoryChangesOnlyAtStores`, and the first clause of `FlagsChangeOnlyAsListed`: a next state of `exec`, here of a store
at the top of memory. -/
theorem witness_frames :
    let s := { State.reset with a := 0x11 }
    exec (.sta 0xFFFF) s = .next { s with mem := [(0xFFFF, 0x11)], pc := 3 } := rfl
theorem witness_FlagsChangeOnlyAsListed :
    let s := { State.reset with run := .running, sp := 0x0002 }
    s.flags &&& 0x2A = s.cfg.flagsReset &&& 0x2A ∧ step s = .next { s with pc := 1 } ∧ 2 ≤ s.sp.toNat :=
  ⟨by decide, rfl, by decide⟩
theorem witness_RegistersChangeOnlyAsListed :
    let s := { State.reset with b := 0x5A }
    exec .movAB s = .next { s with a := 0x5A, pc := 1 } ∧ Reg.b ∉ destRegs .movAB ∧ Instr.movAB ≠ .di ∧
    Instr.movAB ≠ .ei ∧ (∀ port, Instr.movAB ≠ .inPort port) ∧ ∀ port, Instr.movAB ≠ .outPort port :=
  ⟨rfl, by decide, by decide, by decide, by simp, by simp⟩
theorem witness_ControlStateIsUntouched :
    let s := { State.reset with run := .running }
    exec .nop s = .next { s with pc := 1 } ∧ step s = .next { s with pc := 1 } := ⟨rfl, rfl⟩
theorem witness_DebugStateIsInvisible :
    let s := { State.reset with run := .running, bp := [0x0003] }
    let u := { State.reset with run := .singleStepWait, grant := true, inte := true }
    visible s = visible u ∧ exec .inrB s = .next { s with b := 1, flags := 0x02, pc := 1 } ∧
    exec .inrB u = .next { u with b := 1, flags := 0x02, pc := 1 } := ⟨rfl, rfl, rfl⟩
/-- The three cases of `PcAdvancesOrJumps`: past the end, a jump, a halt; and a wait. -/
theorem witness_PcAdvancesOrJumps :
    exec .nop { State.reset with pc := 65535 } = .next { State.reset with pc := 65536 } ∧
    exec (.jmp 0xFFFF) State.reset = .next { State.reset with pc := 65535 } ∧
    exec .ret State.reset = .next { State.reset with run := .halted (.outOfBounds 65536) } ∧
    exec (.inPort 0x01) { State.reset with replies := [.later] } = .next State.reset := ⟨rfl, rfl, rfl, rfl⟩

theorem witness_MovCopies : ¬ (Loc.m = .m ∧ Loc.reg .a = .m) := by decide
/-- The operand bytes of a two-byte and of a three-byte instruction lie past the end of memory. -/
theorem witness_OperandsPastEnd :
    let s := ready 65535 [0x06] State.reset
    let u := ready 65534 [0xCA, 0x00] State.reset
    (s.pc < 65536 ∧ s.mem.read s.pc = opcodeByte (.mviB 0x05) ∧ implemented s.cfg (opcodeByte (.mviB 0x05)) = true ∧
      65536 < s.pc + Instr.len (.mviB 0x05)) ∧
    u.pc < 65536 ∧ u.mem.read u.pc = opcodeByte (.jz 0x1234) ∧ implemented u.cfg (opcodeByte (.jz 0x1234)) = true ∧
      65536 < u.pc + Instr.len (.jz 0x1234) := by decide
theorem witness_LhldLoadsPair : (0xFFFE : Word).toNat + 1 < 65536 ∧ (0xFFFF : Word).toNat = 65535 := by decide
theorem witness_ShldStoresPair : (0xFFFE : Word).toNat + 1 < 65536 ∧ (0xFFFF : Word).toNat = 65535 := by decide
theorem witness_XthlExchangesStackTop : ({ State.reset with sp := 0xFFFE } : State).sp.toNat + 1 < 65536 ∧
    State.reset.sp.toNat = 65535 := by decide

theorem witness_AuxiliaryCarryDefaults_parameter :
    let p : AuxPoint := { op := 0x80, x := 0x01, y := 0x02, cin := false, ac := true }
    let s := { State.reset with cfg := { Config.default with auxExceptions := [p] } }
    ∀ q ∈ s.cfg.auxExceptions, ¬ (q.op = 0x80 ∧ q.x = 0x01 ∧ q.y = 0x02 ∧ q.cin = true) := by decide
theorem witness_AuxiliaryCarryDefaults_opcodes :
    (0x8E : Byte) = opcodeByte (Instr.aluOf .adc .m) ∧ (0xC6 : Byte) = opcodeByte (Instr.aluImmOf .add 0xFF) ∧
    (0x97 : Byte) = opcodeByte (Instr.aluOf .sub (.reg .a)) ∧ (0xFE : Byte) = opcodeByte (Instr.aluImmOf .cmp 0x00) := by
  decide

/-- Every condition holds in some state and fails in another: the premises of the conditional jumps, calls, returns. -/
theorem witness_JumpsGoToTarget :
    let none := { State.reset with flags := 0x02 }
    let all := { State.reset with flags := 0xD7 }
    (Holds none .nz ∧ Holds none .nc ∧ Holds none .po ∧ Holds none .p) ∧
    (¬ Holds all .nz ∧ ¬ Holds all .nc ∧ ¬ Holds all .po ∧ ¬ Holds all .p) ∧
    (Holds all .z ∧ Holds all .c ∧ Holds all .pe ∧ Holds all .m) ∧
    (¬ Holds none .z ∧ ¬ Holds none .c ∧ ¬ Holds none .pe ∧ ¬ Holds none .m) := by
  simp only [Holds]
  decide
/-- The three cases of a call or RST where they meet: the last one that completes, and the first that halts by its return
address and by SP. -/
theorem witness_CallsTarget :
    let s := { State.reset with pc := 65532, sp := 0x0002 }
    let u := { State.reset with pc := 65533, sp := 0x0002 }
    let v := { State.reset with pc := 65532, sp := 0x0001 }
    (s.pc + 3 < 65536 ∧ 2 ≤ s.sp.toNat) ∧ 65536 ≤ u.pc + 3 ∧ v.pc + 3 < 65536 ∧ v.sp.toNat < 2 := by decide
theorem witness_RstCallsItsVector :
    let s := { State.reset with pc := 65534, sp := 0x0002 }
    let u := { State.reset with pc := 65535, sp := 0x0002 }
    let v := { State.reset with pc := 65534, sp := 0x0000 }
    (s.pc + 1 < 65536 ∧ 2 ≤ s.sp.toNat) ∧ 65536 ≤ u.pc + 1 ∧ v.pc + 1 < 65536 ∧ v.sp.toNat < 2 := by decide
theorem witness_ConditionalCallsTestOneFlag :
    let s := { State.reset with pc := 65532, sp := 0x0002, flags := 0x42 }
    Holds s .z ∧ ¬ Holds s .nz ∧ s.pc + 3 < 65536 ∧ 2 ≤ s.sp.toNat := by simp only [Holds]; decide
theorem witness_RetPopsIntoPc : ({ State.reset with sp := 0xFFFE } : State).sp.toNat < 65535 ∧
    State.reset.sp.toNat = 65535 := by decide
theorem witness_ConditionalReturnsTestOneFlag :
    let s := { State.reset with sp := 0xFFFE, flags := 0x42 }
    let u := { State.reset with flags := 0x42 }
    (Holds s .z ∧ ¬ Holds s .nz ∧ s.sp.toNat < 65535) ∧ Holds u .z ∧ u.sp.toNat = 65535 := by
  simp only [Holds]; decide
theorem witness_PushStoresPair : (2 ≤ ({ State.reset with sp := 0x0002 } : State).sp.toNat) ∧
    ({ State.reset with sp := 0x0001 } : State).sp.toNat < 2 := by decide
theorem witness_PopLoadsPair : ({ State.reset with sp := 0xFFFE } : State).sp.toNat < 65535 ∧
    State.reset.sp.toNat = 65535 := by decide
theorem witness_PushThenPopRestores :
    let s := { State.reset with b := 0x12, c := 0x34, sp := 0x0002 }
    let t := { s with mem := [(0, 0x34), (1, 0x12)], sp := 0x0000, pc := 1 }
    2 ≤ s.sp.toNat ∧ exec .pushB s = .next t ∧ exec .popB t = .next { t with sp := 0x0002, pc := 2 } :=
  ⟨by decide, rfl, rfl⟩
theorem witness_CallThenRetReturns :
    let s := { State.reset with pc := 0xFFFC, sp := 0x0002 }
    let t := { s with mem := [(0, 0xFF), (1, 0xFF)], sp := 0x0000, pc := 0x2000 }
    s.pc + 3 < 65536 ∧ 2 ≤ s.sp.toNat ∧ exec (.call 0x2000) s = .next t ∧
    exec .ret t = .next { t with sp := 0x0002, pc := 0xFFFF } ∧ s.cfg.remap = [] :=
  ⟨by decide, by decide, rfl, rfl, rfl⟩

theorem witness_InReadsBridge_reply : (0x01 : Byte) ≠ 0xFF ∧
    ({ State.reset with replies := [.byte 0xC1] } : State).replies = .byte 0xC1 :: [] := by decide
theorem witness_InReadsBridge_free : (0xFE : Byte) ≠ 0xFF ∧ State.reset.replies = [] := by decide
/-- A wait that ends and one without end, on an ordinary port and on the port of the switches. -/
theorem witness_InReadsBridge_wait :
    let s := ready 0 [0xDB, 0x01] { State.reset with replies := [.later] }
    let t := ready 0 [0xDB, 0xFF] { State.reset with replies := [.later, .byte 0xC1] }
    let u := ready 0 [0xDB, 0xFE] { State.reset with replies := [.never] }
    let v := ready 0 [0xDB, 0xFF] { State.reset with replies := [.never, .byte 0xC1] }
    (s.replies = .later :: [] ∧ s.active = true ∧ fetch s = .ok (.inPort 0x01)) ∧
    (t.replies = .later :: [.byte 0xC1] ∧ t.active = true ∧ fetch t = .ok (.inPort 0xFF)) ∧
    (u.replies = .never :: [] ∧ u.active = true ∧ fetch u = .ok (.inPort 0xFE)) ∧
    v.replies = .never :: [.byte 0xC1] ∧ v.active = true ∧ fetch v = .ok (.inPort 0xFF) :=
  ⟨⟨rfl, rfl, rfl⟩, ⟨rfl, rfl, rfl⟩, ⟨rfl, rfl, rfl⟩, rfl, rfl, rfl⟩

theorem witness_StartAndStopSetRun :
    let s := { State.reset with inbox := [(0, .start)] }
    (s.active = false ∧ s.grant = false ∧ s.inbox = [(0, .start)]) ∧ s.run = .idle ∧
    (∀ r, s.run ≠ .halted r) ∧ ({ s with run := .halted .requested } : State).run = .halted .requested ∧
    ({ s with run := .singleStepWait } : State).run.isWait = true ∧ ({ s with run := .running } : State).run = .running :=
  ⟨⟨rfl, rfl, rfl⟩, rfl, by simp [State.reset], rfl, rfl, rfl⟩
/-- The queue at a boundary: empty, an event with a delay, an event without a grant before others, and a grant before
others. -/
theorem witness_StartAndStopSetRun_queue :
    let s := { State.reset with inbox := [(1, .stop), (0, .start)] }
    let u := { State.reset with inbox := [(0, .start), (0, .stop)] }
    let v := { State.reset with run := .breakpointHit 0x0003, inbox := [(0, .step), (0, .stop)] }
    State.reset.inbox = [] ∧ s.inbox = (0 + 1, .stop) :: [(0, .start)] ∧
    (u.inbox = (0, .start) :: [(0, .stop)] ∧ (hostEvent .start u).grant = false) ∧
    v.run.isWait = true ∧ v.inbox = (0, .step) :: [(0, .stop)] ∧ (hostEvent .step v).grant = true :=
  ⟨rfl, rfl, ⟨rfl, rfl⟩, rfl, rfl, rfl⟩
theorem witness_BreakpointThenSingleStep :
    let s := ready 0 [0x3C] { State.reset with bp := [0x0001] }
    s.active = true ∧ s.inbox = [] ∧ s.waiting = false ∧
    instructionStep s = .next { s with a := 0x01, flags := 0x02, pc := 1 } := ⟨rfl, rfl, rfl, rfl⟩
theorem witness_AdvanceRunsOneInstruction :
    let s := { ready 0 [0x3C] State.reset with run := .singleStepWait, inbox := [(0, .step)] }
    let u := { s with grant := true, inbox := [] }
    s.run.isWait = true ∧ s.grant = false ∧ s.inbox = [(0, .step)] ∧
    instructionStep u = .next { u with a := 0x01, flags := 0x02, pc := 1 } ∧ u.waiting = false :=
  ⟨rfl, rfl, rfl, rfl, rfl⟩
theorem witness_AdvanceRunsOneInstruction_elsewhere : State.reset.run.isWait = false := rfl
theorem witness_HaltedIsTerminal :
    let s := { State.reset with run := .halted .requested, inbox := [(0, .start), (0, .setSwitches 0x1234)] }
    s.run = .halted .requested ∧ (∀ x ∈ s.inbox, x.2 ≠ .reset) ∧
    step s = .next { s with sw := 0x1234, inbox := [] } := ⟨rfl, by decide, rfl⟩
theorem witness_SetBreakpointsReplaces :
    ((∀ x ∈ ([65535, 0, 3, 3, 4, 5] : List Int), 0 ≤ x ∧ x < 65536) ∧
      ([65535, 0, 3, 3, 4, 5] : List Int).dedup.length ≤ 5) ∧
    ¬ (∀ x ∈ ([65536] : List Int), 0 ≤ x ∧ x < 65536) ∧ ¬ ([1, 2, 3, 4, 5, 6] : List Int).dedup.length ≤ 5 := by decide
theorem witness_LoadRomCopiesImage :
    (State.reset.run = .idle ∧ (List.replicate 65536 (0 : Byte)).length ≤ 65536) ∧
    65536 < (List.replicate 65537 (0 : Byte)).length ∧
    (0 < ([0x3E] : List Byte).length ∧ ([0x3E] : List Byte).length ≤ 1) ∧
    ({ State.reset with run := .running } : State).run ≠ .idle := by
  simp only [List.length_replicate]
  decide

theorem witness_StepKeepsInvariant :
    let s := ready 65535 [0x00] State.reset
    s.Inv ∧ step s = .next { s with pc := 65536 } :=
  ⟨⟨by decide, by decide, by decide, by decide, by decide⟩, rfl⟩

end Sys2Proof.Tests
end

/-! The family 00_scope.md: no step ends in a fault or a refusal of the model, and the defaults of AUX. -/

namespace Sys2Proof.Machine

/-! Each operation that a family of instructions shares answers a next state (R14, R265). -/

theorem jumpIf_next (taken : Bool) (target : Word) (s : State) : ∃ t, jumpIf taken target s = .next t := by
  cases taken <;> exact ⟨_, rfl⟩

theorem callTo_next (target : Word) (len : Nat) (s : State) : ∃ t, callTo target len s = .next t :=
  takeHalt_next s _

theorem callIf_next (taken : Bool) (target : Word) (s : State) : ∃ t, callIf taken target s = .next t := by
  cases taken
  case false => exact ⟨_, rfl⟩
  case true => exact callTo_next target 3 s

theorem returnVia_next (via : Word → Word) (s : State) : ∃ t, returnVia via s = .next t :=
  takeHalt_next s _

theorem returnIf_next (taken : Bool) (via : Word → Word) (s : State) : ∃ t, returnIf taken via s = .next t := by
  cases taken
  case false => exact ⟨_, rfl⟩
  case true => exact returnVia_next via s

theorem input_next (port : Byte) (s : State) : ∃ t, input port s = .next t := by
  rcases input_cases port s with ⟨_, _, _, h⟩ | ⟨_, _, h⟩ <;> exact ⟨_, h⟩

/-- Apart from the instructions that test a condition, can raise, or wait for the Bridge, an instruction's meaning is
already written as a next state. -/
theorem exec_next (i : Instr) (s : State) : ∃ t, exec i s = .next t := by
  cases i with
  | jnz | jz | jnc | jc | jpo | jpe | jp | jm => exact jumpIf_next _ _ s
  | call | rst0 | rst1 | rst2 | rst3 | rst4 | rst5 | rst6 | rst7 => exact callTo_next _ _ s
  | cnz | cz | cnc | cc | cpo | cpe | cp | cm => exact callIf_next _ _ s
  | ret => exact returnVia_next _ s
  | rnz | rz | rnc | rc | rpo | rpe | rp | rm => exact returnIf_next _ _ s
  | lhld | shld | xthl | pushB | pushD | pushH | pushPsw | popB | popD | popH | popPsw => exact takeHalt_next s _
  | inPort port => exact input_next port s
  | _ => exact ⟨_, rfl⟩

theorem instructionStep_next (s : State) : ∃ t, instructionStep s = .next t := by
  unfold instructionStep
  cases fetch s with
  | error f => exact ⟨_, rfl⟩
  | ok i => exact exec_next i s

theorem iteration_next (s : State) : ∃ t, iteration s = .next t := by
  obtain ⟨t, ht⟩ := instructionStep_next s
  cases hw : s.waiting
  case false => exact ⟨(t.afterStep s.single).boundary, by simp [iteration, ht, hw]⟩
  case true => exact ⟨t, by simp [iteration, ht, hw]⟩

theorem step_next (s : State) : ∃ t, step s = .next t := by
  cases ha : s.active
  case false => exact ⟨s.boundary, by simp [step, controllerStep, ha]⟩
  case true =>
    obtain ⟨t, ht⟩ := iteration_next s
    exact ⟨t, by simp [step, controllerStep, ha, ht]⟩

/-- Settles O10: each instruction by the shared operation that gives its meaning, the step by its parts. -/
theorem everyStepAnswersNext : Obligations.EveryStepAnswersNext := ⟨exec_next, step_next⟩

/-! AUX (R7, R121, R141): which formula an opcode byte selects, and what each formula says of the low nibbles. -/

theorem State.aux_eq_auxDefault {s : State} {op x y : Byte} {cin : Bool}
    (h : ∀ p ∈ s.cfg.auxExceptions, ¬ (p.op = op ∧ p.x = x ∧ p.y = y ∧ p.cin = cin)) :
    s.aux op x y cin = auxDefault op x y cin := by
  have hnone : s.cfg.auxExceptions.find? (fun p => p.op == op && p.x == x && p.y == y && p.cin == cin) = none :=
    List.find?_eq_none.mpr fun p hp => by simpa [and_assoc] using h p hp
  rw [State.aux, hnone]

theorem inrOf_opcode (x : Loc) : opcodeByte (Instr.inrOf x) &&& 0xC7 = 0x04 := by
  rcases x with r | _
  · cases r <;> rfl
  · rfl

theorem dcrOf_opcode (x : Loc) : opcodeByte (Instr.dcrOf x) &&& 0xC7 = 0x05 := by
  rcases x with r | _
  · cases r <;> rfl
  · rfl

/-- `op` is the opcode byte of the alu operation `k` in one of its forms: on a register or M, or on an immediate. -/
def IsAluOpcode (k : Alu) (op : Byte) : Prop :=
  (∃ z, op = opcodeByte (Instr.aluOf k z)) ∨ ∃ d8, op = opcodeByte (Instr.aluImmOf k d8)

/-- The immediate is no part of the opcode byte. -/
theorem aluImmOf_opcode (k : Alu) (d8 : Byte) :
    opcodeByte (Instr.aluImmOf k d8) = opcodeByte (Instr.aluImmOf k 0) := by
  cases k <;> rfl

/-- The opcode byte of an alu operation is none of INR's or DCR's, and `isSubtractive` picks out SUB, SBB and CMP. -/
theorem IsAluOpcode.selects {k : Alu} {op : Byte} (h : IsAluOpcode k op) :
    op &&& 0xC7 ≠ 0x04 ∧ op &&& 0xC7 ≠ 0x05 ∧ isSubtractive op = decide (k ∈ [Alu.sub, .sbb, .cmp]) := by
  rcases h with ⟨r | _, rfl⟩ | ⟨d8, rfl⟩
  · cases r <;> cases k <;> decide
  · cases k <;> decide
  · rw [aluImmOf_opcode]
    cases k <;> decide

/-- INR's formula (R121): the low nibble wraps exactly when it is 15. -/
theorem auxDefault_inr {op : Byte} (h : op &&& 0xC7 = 0x04) (v y : Byte) (cin : Bool) :
    auxDefault op v y cin = decide (v.toNat % 16 = 15) := by
  have hwrap : lowNibble (v + 1) < lowNibble v ↔ v.toNat % 16 = 15 := by
    unfold lowNibble
    bv_omega
  rw [auxDefault, if_pos (beq_iff_eq.mpr h)]
  exact decide_eq_decide.mpr hwrap

/-- DCR's formula (R121): the low nibble wraps exactly when it is 0. -/
theorem auxDefault_dcr {op : Byte} (h : op &&& 0xC7 = 0x05) (v y : Byte) (cin : Bool) :
    auxDefault op v y cin = decide (v.toNat % 16 = 0) := by
  have hwrap : lowNibble (v - 1) > lowNibble v ↔ v.toNat % 16 = 0 := by
    unfold lowNibble
    bv_omega
  have hinr : op &&& 0xC7 ≠ 0x04 := by rw [h]; decide
  rw [auxDefault, if_neg (mt beq_iff_eq.mp hinr), if_pos (beq_iff_eq.mpr h)]
  exact decide_eq_decide.mpr hwrap

/-- The formula of the alu operations that do not subtract (R141). -/
theorem auxDefault_addition {k : Alu} {op : Byte} (h : IsAluOpcode k op) (hk : k ∉ [Alu.sub, .sbb, .cmp])
    (x y : Byte) (cin : Bool) :
    auxDefault op x y cin = decide (x.toNat % 16 + y.toNat % 16 + cin.toNat > 15) := by
  obtain ⟨hinr, hdcr, hsub⟩ := h.selects
  have hadd : ¬ isSubtractive op = true := by simpa [hsub] using hk
  rw [auxDefault, if_neg (mt beq_iff_eq.mp hinr), if_neg (mt beq_iff_eq.mp hdcr), if_neg hadd]
  rfl

/-- The formula of SUB, SBB, CMP, SUI, SBI and CPI (R141). -/
theorem auxDefault_subtraction {k : Alu} {op : Byte} (h : IsAluOpcode k op) (hk : k ∈ [Alu.sub, .sbb, .cmp])
    (x y : Byte) (cin : Bool) :
    auxDefault op x y cin = decide (x.toNat % 16 < y.toNat % 16 + cin.toNat) := by
  obtain ⟨hinr, hdcr, hsub⟩ := h.selects
  rw [auxDefault, if_neg (mt beq_iff_eq.mp hinr), if_neg (mt beq_iff_eq.mp hdcr),
    if_pos (hsub.trans (decide_eq_true hk))]
  rfl

/-- Settles O29: the opcode byte selects the branch of AUX_DEFAULT, and each branch is a fact about low nibbles. -/
theorem auxiliaryCarryDefaults : Obligations.AuxiliaryCarryDefaults := by
  have hadds : ∀ k ∈ [Alu.add, .adc], k ∉ [Alu.sub, .sbb, .cmp] := by decide
  exact ⟨fun _ _ _ _ _ h => State.aux_eq_auxDefault h,
    fun x v => ⟨auxDefault_inr (inrOf_opcode x) v 1 false, auxDefault_dcr (dcrOf_opcode x) v 1 false⟩,
    fun k hk _ hop => auxDefault_addition hop (hadds k hk),
    fun _ hk _ hop => auxDefault_subtraction hop hk⟩

end Sys2Proof.Machine

/-! The family 10_state.md: everything an instruction can do to the state, the frames of memory and of the registers, and
the invariant of the machine. -/

namespace Sys2Proof.Machine

open Sys2Proof.Claims

/-! What a statement about every instruction needs of the shared operations. -/

/-- The outcome `o` is a next state, of which `P` holds. -/
def Ends (o : Host.Outcome State Fault Refusal) (P : State → Prop) : Prop := ∃ t, o = .next t ∧ P t

theorem Ends.of_next {o : Host.Outcome State Fault Refusal} {P : State → Prop} {t : State} (h : Ends o P)
    (ht : o = .next t) : P t := by
  obtain ⟨u, hu, hP⟩ := h
  obtain rfl : u = t := Host.Outcome.next.inj (hu.symm.trans ht)
  exact hP

/-- `m'` is `m` after stores at some of the addresses `addrs`, each inside memory. -/
inductive Stores (addrs : List Nat) (m : Memory) : Memory → Prop where
  | none : Stores addrs m m
  | store {m' : Memory} {addr : Nat} (v : Byte) (before : Stores addrs m m') (listed : addr ∈ addrs)
      (inside : addr < memSize) : Stores addrs m (m'.write addr v)

theorem Stores.one {m : Memory} {addr : Nat} {v : Byte} (h : addr < memSize) : Stores [addr] m (m.write addr v) :=
  .store v .none (List.mem_singleton_self addr) h

theorem Stores.two {m : Memory} {a b : Nat} {v w : Byte} (ha : a < memSize) (hb : b < memSize) :
    Stores [a, b] m ((m.write a v).write b w) :=
  .store w (.store v .none (by simp) ha) (by simp) hb

theorem Stores.read_of_not_mem {addrs : List Nat} {m m' : Memory} (h : Stores addrs m m') {addr : Nat}
    (ha : addr ∉ addrs) : m'.read addr = m.read addr := by
  induction h with
  | none => rfl
  | store v _ listed _ ih =>
    rw [Memory.read_write_of_ne _ v (ne_of_mem_of_not_mem listed ha).symm, ih]

theorem Stores.wf {addrs : List Nat} {m m' : Memory} (h : Stores addrs m m') (hm : m.wf) : m'.wf := by
  induction h with
  | none => exact hm
  | store v _ _ inside ih => exact Memory.wf_write v ih inside

/-- `s` with the registers of `rs` as in `t`. -/
def State.copyRegs (s t : State) (rs : List Reg) : State := rs.foldl (fun u r => u.setReg r (t.reg r)) s

theorem State.reg_copyRegs_of_not_mem (s t : State) {rs : List Reg} {q : Reg} (hq : q ∉ rs) :
    (s.copyRegs t rs).reg q = s.reg q := by
  induction rs generalizing s with
  | nil => rfl
  | cons r rest ih =>
    exact (ih (s.setReg r (t.reg r)) (List.not_mem_of_not_mem_cons hq)).trans
      (s.reg_setReg_of_ne _ (List.ne_of_not_mem_cons hq))

/-- Where `t` has all the registers of `s` with those of `rs` copied from `t`, only those can differ. -/
theorem reg_eq_of_copyRegs {s t : State} {rs : List Reg} (h : ∀ q, t.reg q = (s.copyRegs t rs).reg q) (q : Reg)
    (hq : q ∉ rs) : t.reg q = s.reg q :=
  (h q).trans (s.reg_copyRegs_of_not_mem t hq)

/-! Everything an instruction can do. -/

/-- From `s` to `t` the instruction `i` is executed to its end: what it may change, by the lists of R22, R23, R27 and
95_test_vectors.md section 5, and what it leaves as it was. The default proofs are those of an instruction whose result, as
its meaning writes it, shows the fact by itself. -/
structure Completes (i : Instr) (s t : State) : Prop where
  regs : ∀ r, r ∉ destRegs i → t.reg r = s.reg r := by exact reg_eq_of_copyRegs fun _ => rfl
  sp : t.sp = spAfter i s := by rfl
  inte : i ≠ .di → i ≠ .ei → t.inte = s.inte := by exact fun _ _ => rfl
  bridge : (∀ port, i ≠ .inPort port) → t.replies = s.replies ∧ ((∀ port, i ≠ .outPort port) → t.io = s.io) := by
    exact fun _ => ⟨rfl, fun _ => rfl⟩
  mem : Stores (storedAt i s) s.mem t.mem := by exact .none
  flags : t.flags &&& ~~~(flagsWritten i) = s.flags &&& ~~~(flagsWritten i) := by rfl
  pc : t.pc = s.pc + i.len ∨ (isTransfer i = true ∧ t.pc < memSize) := by exact .inl rfl
  control : t.run = s.run ∧ t.bp = s.bp ∧ t.grant = s.grant ∧ t.sstep = s.sstep ∧ t.sw = s.sw ∧ t.inbox = s.inbox ∧
    t.cfg = s.cfg := by exact ⟨rfl, rfl, rfl, rfl, rfl, rfl, rfl⟩

/-- All an instruction can do: halt with nothing done (R265), wait for the Bridge (R230), or complete. -/
inductive Effect (i : Instr) (s : State) : State → Prop where
  | halts (f : Fault) : Effect i s (s.halt f.reason)
  | waits (rs : List BridgeReply) (wait : waitsOn i s = true) : Effect i s { s with replies := rs }
  | completes {t : State} (completion : Completes i s t) : Effect i s t

theorem waitsOn_eq_true {i : Instr} {s : State} (h : waitsOn i s = true) :
    (∃ port, i = .inPort port) ∧ bridgeWaits s = true := by
  unfold waitsOn at h
  split at h
  · exact ⟨⟨_, rfl⟩, h⟩
  · cases h

theorem jumpIf_effect {i : Instr} {s : State} {taken : Bool} {target : Word} (hi : isTransfer i = true)
    (hlen : i.len = 3) (hsp : spAfter i s = s.sp) : Ends (jumpIf taken target s) (Effect i s) := by
  cases taken
  case false => exact ⟨_, rfl, .completes { regs := fun _ _ => rfl, sp := hsp.symm, pc := .inl (by rw [hlen]; rfl) }⟩
  case true => exact ⟨_, rfl, .completes { regs := fun _ _ => rfl, sp := hsp.symm, pc := .inr ⟨hi, target.isLt⟩ }⟩

theorem stores_below_sp (s : State) (v w : Byte) : Stores [s.sp.toNat - 1, s.sp.toNat - 2] s.mem
    ((s.mem.write (s.sp.toNat - 1) v).write (s.sp.toNat - 2) w) :=
  have hsp : s.sp.toNat < memSize := s.sp.isLt
  .two (by omega) (by omega)

theorem callTo_effect {i : Instr} {s : State} {target : Word} {len : Nat} (hi : isTransfer i = true)
    (hsp : spAfter i s = s.sp - 2) (hst : storedAt i s = [s.sp.toNat - 1, s.sp.toNat - 2]) :
    Ends (callTo target len s) (Effect i s) := by
  rcases callTo_cases target len s with ⟨_, h⟩ | ⟨_, _, h⟩ | ⟨_, _, h⟩
  · exact ⟨_, h, .halts (.outOfBounds _)⟩
  · exact ⟨_, h, .halts (.outOfBounds _)⟩
  · exact ⟨_, h, .completes { regs := fun _ _ => rfl, sp := hsp.symm, mem := hst ▸ stores_below_sp s _ _
                              pc := .inr ⟨hi, target.isLt⟩ }⟩

theorem callIf_effect {i : Instr} {s : State} {taken : Bool} {target : Word} (hi : isTransfer i = true)
    (hlen : i.len = 3) (hsp : spAfter i s = if taken then s.sp - 2 else s.sp)
    (hst : storedAt i s = if taken then [s.sp.toNat - 1, s.sp.toNat - 2] else []) :
    Ends (callIf taken target s) (Effect i s) := by
  cases taken
  case false => exact ⟨_, rfl, .completes { regs := fun _ _ => rfl, sp := hsp.symm, pc := .inl (by rw [hlen]; rfl) }⟩
  case true => exact callTo_effect hi hsp hst

theorem returnVia_effect {i : Instr} {s : State} {via : Word → Word} (hi : isTransfer i = true)
    (hsp : spAfter i s = s.sp + 2) : Ends (returnVia via s) (Effect i s) := by
  rcases returnVia_cases via s with ⟨_, h⟩ | ⟨_, h⟩
  · exact ⟨_, h, .completes { regs := fun _ _ => rfl, sp := hsp.symm, pc := .inr ⟨hi, BitVec.isLt _⟩ }⟩
  · exact ⟨_, h, .halts (.outOfBounds 65536)⟩

theorem returnIf_effect {i : Instr} {s : State} {taken : Bool} {via : Word → Word} (hi : isTransfer i = true)
    (hlen : i.len = 1) (hsp : spAfter i s = if taken then s.sp + 2 else s.sp) :
    Ends (returnIf taken via s) (Effect i s) := by
  cases taken
  case false => exact ⟨_, rfl, .completes { regs := fun _ _ => rfl, sp := hsp.symm, pc := .inl (by rw [hlen]; rfl) }⟩
  case true => exact returnVia_effect hi hsp

theorem pushValue_effect {i : Instr} {s : State} {w : Word} (hlen : i.len = 1) (hsp : spAfter i s = s.sp - 2)
    (hst : storedAt i s = [s.sp.toNat - 1, s.sp.toNat - 2]) : Ends (pushValue w s) (Effect i s) := by
  rcases pushValue_cases w s with ⟨_, h⟩ | ⟨_, h⟩
  · exact ⟨_, h, .completes { regs := fun _ _ => rfl, sp := hsp.symm, mem := hst ▸ stores_below_sp s _ _
                              pc := .inl (by rw [hlen]) }⟩
  · exact ⟨_, h, .halts (.outOfBounds (-1))⟩

/-- POP PSW writes the five flags and no other (R224). -/
theorem popFlags_outside (f v : Byte) :
    (f &&& reservedMask ||| v &&& flagMask) &&& ~~~(0xD5 : Byte) = f &&& ~~~(0xD5 : Byte) := by
  have hmask : ∀ (k : Nat) (hk : k < 8), (0xD5 : Byte)[k] = false → reservedMask[k] = true ∧ flagMask[k] = false := by
    decide
  exact and_not_mask fun k hk hm => by simp [hmask k hk hm]

/-- An instruction that writes one register and flags. -/
theorem setReg_completes {i : Instr} {s : State} {r : Reg} {v f : Byte} {len : Nat} (hd : destRegs i = [r])
    (hsp : spAfter i s = s.sp) (hlen : i.len = len)
    (hf : f &&& ~~~(flagsWritten i) = s.flags &&& ~~~(flagsWritten i)) :
    Completes i s (({ s.setReg r v with flags := f } : State).advance len) where
  regs q hq := s.reg_setReg_of_ne v (by simpa [hd] using hq)
  sp := by simp [hsp]
  inte := by simp
  bridge := by simp
  mem := by simpa using .none
  flags := hf
  pc := .inl (by simp [hlen])
  control := by simp

/-- An instruction that stores one byte, of which INR M and DCR M write flags too. -/
theorem store_completes {i : Instr} {s : State} {addr len : Nat} {v f : Byte} (hst : storedAt i s = [addr])
    (haddr : addr < memSize) (hsp : spAfter i s = s.sp) (hlen : i.len = len)
    (hf : f &&& ~~~(flagsWritten i) = s.flags &&& ~~~(flagsWritten i)) :
    Completes i s (({ s with flags := f, mem := s.mem.write addr v } : State).advance len) :=
  { regs := fun _ _ => rfl, sp := hsp.symm, mem := hst ▸ .one haddr, flags := hf, pc := .inl (by rw [hlen]; rfl) }

/-- Apart from the shared operations above, an instruction that completes does so at once: its meaning is already written as
a next state, and only the flags and the stores ask for more than reading it. -/
theorem exec_effect (i : Instr) (s : State) : Ends (exec i s) (Effect i s) := by
  cases i with
  | jnz | jz | jnc | jc | jpo | jpe | jp | jm => exact jumpIf_effect rfl rfl rfl
  | jmp | pchl => exact ⟨_, rfl, .completes { pc := .inr ⟨rfl, BitVec.isLt _⟩ }⟩
  | call | rst0 | rst1 | rst2 | rst3 | rst4 | rst5 | rst6 | rst7 => exact callTo_effect rfl rfl rfl
  | cnz | cz | cnc | cc | cpo | cpe | cp | cm => exact callIf_effect rfl rfl rfl rfl
  | ret => exact returnVia_effect rfl rfl
  | rnz | rz | rnc | rc | rpo | rpe | rp | rm => exact returnIf_effect rfl rfl rfl
  | pushB | pushD | pushH | pushPsw => exact pushValue_effect rfl rfl rfl
  | popB | popD | popH =>
    rcases popPair_cases _ s with ⟨_, h⟩ | ⟨_, h⟩
    · exact ⟨_, h, .completes {}⟩
    · exact ⟨_, h, .halts (.outOfBounds 65536)⟩
  | popPsw =>
    rcases popAccFlags_cases s with ⟨_, h⟩ | ⟨_, h⟩
    · exact ⟨_, h, .completes { flags := popFlags_outside _ _ }⟩
    · exact ⟨_, h, .halts (.outOfBounds 65536)⟩
  | lhld a16 =>
    rcases loadHL_cases a16 s with ⟨_, h⟩ | ⟨_, h⟩
    · exact ⟨_, congrArg (takeHalt s) h, .completes {}⟩
    · exact ⟨_, congrArg (takeHalt s) h, .halts (.outOfBounds 65536)⟩
  | shld a16 =>
    rcases storeHL_cases a16 s with ⟨hlt, h⟩ | ⟨_, h⟩
    · exact ⟨_, congrArg (takeHalt s) h, .completes { mem := .two a16.isLt hlt }⟩
    · exact ⟨_, congrArg (takeHalt s) h, .halts (.outOfBounds 65536)⟩
  | xthl =>
    rcases exchangeTop_cases s with ⟨hlt, h⟩ | ⟨_, h⟩
    · exact ⟨_, congrArg (takeHalt s) h, .completes { mem := .two s.sp.isLt hlt }⟩
    · exact ⟨_, congrArg (takeHalt s) h, .halts (.outOfBounds 65536)⟩
  | inPort port =>
    rcases input_cases port s with ⟨_, v, rs, h⟩ | ⟨hw, rs, h⟩
    · exact ⟨_, h, .completes { bridge := fun hi => absurd rfl (hi port) }⟩
    · exact ⟨_, h, .waits rs hw⟩
  | outPort port => exact ⟨_, rfl, .completes { bridge := fun _ => ⟨rfl, fun hi => absurd rfl (hi port)⟩ }⟩
  | di => exact ⟨_, rfl, .completes { inte := fun hdi _ => absurd rfl hdi }⟩
  | ei => exact ⟨_, rfl, .completes { inte := fun _ hei => absurd rfl hei }⟩
  | undefined op => exact ⟨_, rfl, .halts (.undefinedOpcode s.pc op)⟩
  | staxB | staxD | sta | mviM | movMB | movMC | movMD | movME | movMH | movML | movMA =>
    exact ⟨_, rfl, .completes (store_completes rfl (BitVec.isLt _) rfl rfl rfl)⟩
  | inrM | dcrM =>
    exact ⟨_, rfl, .completes (store_completes rfl (BitVec.isLt _) rfl rfl (stepFlags_outside _ _ _ _))⟩
  | inrB | inrC | inrD | inrE | inrH | inrL | inrA | dcrB | dcrC | dcrD | dcrE | dcrH | dcrL | dcrA =>
    exact ⟨_, rfl, .completes (setReg_completes rfl rfl rfl (stepFlags_outside _ _ _ _))⟩
  | rlc | rrc | ral | rar =>
    exact ⟨_, rfl, .completes (setReg_completes (r := .a) rfl rfl rfl (Flags.setCY_outside _ _))⟩
  | addB | addC | addD | addE | addH | addL | addM | addA | adi | adcB | adcC | adcD | adcE | adcH | adcL | adcM | adcA
  | aci | subB | subC | subD | subE | subH | subL | subM | subA | sui | sbbB | sbbC | sbbD | sbbE | sbbH | sbbL | sbbM
  | sbbA | sbi | anaB | anaC | anaD | anaE | anaH | anaL | anaM | anaA | ani | xraB | xraC | xraD | xraE | xraH | xraL
  | xraM | xraA | xri | oraB | oraC | oraD | oraE | oraH | oraL | oraM | oraA | ori =>
    exact ⟨_, rfl, .completes (setReg_completes (r := .a) rfl rfl rfl (Flags.result_outside _ _ _ _))⟩
  | cmpB | cmpC | cmpD | cmpE | cmpH | cmpL | cmpM | cmpA | cpi =>
    exact ⟨_, rfl, .completes { flags := Flags.result_outside _ _ _ _ }⟩
  | dadB | dadD | dadH | dadSp | stc | cmc => exact ⟨_, rfl, .completes { flags := Flags.setCY_outside _ _ }⟩
  | _ => exact ⟨_, rfl, .completes {}⟩

/-- Everything `exec` can do: the one lemma from which the frames and the invariant follow. -/
theorem exec_cases {i : Instr} {s t : State} (h : exec i s = .next t) : Effect i s t := (exec_effect i s).of_next h

/-- Settles O13: a halt and a wait store nothing, and an instruction that completes stores at its addresses only. -/
theorem memoryChangesOnlyAtStores : Obligations.MemoryChangesOnlyAtStores := by
  intro i s t h addr haddr
  cases exec_cases h with
  | halts f => rfl
  | waits rs wait => rfl
  | completes completion => exact completion.mem.read_of_not_mem haddr

/-- Settles O14: a halt changes RUN only, a wait the replies of an IN only, and the rest is what completing may change. -/
theorem registersChangeOnlyAsListed : Obligations.RegistersChangeOnlyAsListed := by
  intro i s t h
  cases exec_cases h with
  | halts f => exact ⟨fun _ _ => rfl, .inl rfl, fun _ _ => rfl, fun _ => ⟨rfl, fun _ => rfl⟩⟩
  | waits rs wait =>
    obtain ⟨⟨port, rfl⟩, _⟩ := waitsOn_eq_true wait
    exact ⟨fun _ _ => rfl, .inl rfl, fun _ _ => rfl, fun hi => absurd rfl (hi port)⟩
  | completes completion => exact ⟨completion.regs, .inr completion.sp, completion.inte, completion.bridge⟩

end Sys2Proof.Machine

/-! The length of an instruction is the one its table entry says (R70, R86). -/

namespace Sys2Proof

/-- Every instruction that a table entry can give has the length of the entry's format. -/
inductive Shape.Sized : Shape → Prop where
  | f1 {i : Instr} (len : i.len = 1) : Sized (.f1 i)
  | f2 {k : Byte → Instr} (len : ∀ b1, (k b1).len = 2) : Sized (.f2 k)
  | f3 {k : Word → Instr} (len : ∀ d16, (k d16).len = 3) : Sized (.f3 k)
  | none : Sized .none

theorem opcodeMap_sized : ∀ row ∈ opcodeMap, ∀ shape ∈ row, Shape.Sized shape := by
  simp only [opcodeMap, List.forall_mem_cons, List.not_mem_nil, false_implies, implies_true, and_true]
  and_intros <;> constructor <;> intros <;> rfl

theorem shapeOf_sized (op : Byte) : (shapeOf op).Sized := by
  unfold shapeOf
  rcases Nat.lt_or_ge (op.toNat / 16) opcodeMap.length with hrow | hrow
  · rw [List.getD_eq_getElem _ _ hrow]
    rcases Nat.lt_or_ge (op.toNat % 16) opcodeMap[op.toNat / 16].length with hcol | hcol
    · rw [List.getD_eq_getElem _ _ hcol]
      exact opcodeMap_sized _ (List.getElem_mem hrow) _ (List.getElem_mem hcol)
    · rw [List.getD_eq_default _ _ hcol]
      exact .none
  · rw [List.getD_eq_default _ _ hrow]
    exact .none

end Sys2Proof

namespace Sys2Proof.Machine

open Sys2Proof.Claims

theorem lt_memSize_of_memRead {s : State} {addr : Nat} {v : Byte} (h : memRead s addr = .ok v) : addr < memSize := by
  by_contra hlt
  rw [memRead_error (Nat.not_lt.mp hlt)] at h
  cases h

/-- A fetched instruction ends inside memory (R72, R85). -/
theorem fetch_fits {s : State} {i : Instr} (h : fetch s = .ok i) : s.pc + i.len ≤ memSize := by
  have hsized := shapeOf_sized (s.mem.read s.pc)
  unfold fetch at h
  split at h
  · cases h
  rename_i hpc
  have hpc : s.pc < memSize := Nat.not_le.mp hpc
  simp only at h
  split at h
  · generalize shapeOf (s.mem.read s.pc) = shape at h hsized
    cases hsized with
    | f1 len =>
      obtain rfl := Except.ok.inj h
      omega
    | f2 len =>
      simp only at h
      split at h
      · cases h
      · rename_i b1 h1
        obtain rfl := Except.ok.inj h
        have := lt_memSize_of_memRead h1
        rw [len b1]
        omega
    | f3 len =>
      simp only at h
      split at h
      · cases h
      split at h
      · cases h
      · rename_i b1 _ b2 h2
        obtain rfl := Except.ok.inj h
        have := lt_memSize_of_memRead h2
        rw [len]
        omega
    | none =>
      obtain rfl := Except.ok.inj h
      exact hpc
  · obtain rfl := Except.ok.inj h
    exact hpc

/-! The invariant over a Step (R85). The grant is set aside: a Step may halt while the grant is outstanding, and the checks
after it use the grant up (R277). -/

/-- No listed flag is a reserved bit (R27). -/
theorem flagsWritten_reserved (i : Instr) : ~~~(flagsWritten i) &&& reservedMask = reservedMask := by
  unfold flagsWritten
  split <;> rfl

theorem Completes.reserved {i : Instr} {s t : State} (h : Completes i s t) :
    t.flags &&& reservedMask = s.flags &&& reservedMask := by
  rw [← flagsWritten_reserved i, ← BitVec.and_assoc, h.flags, BitVec.and_assoc]

theorem Completes.pc_le {i : Instr} {s t : State} (h : Completes i s t) (hfits : s.pc + i.len ≤ memSize) :
    t.pc ≤ memSize := by
  rcases h.pc with hpc | ⟨_, hpc⟩
  · exact hpc ▸ hfits
  · exact Nat.le_of_lt hpc

theorem Effect.inv {i : Instr} {s t : State} (he : Effect i s t) (h : s.Inv) (hfits : s.pc + i.len ≤ memSize) :
    ({ t with grant := false } : State).Inv := by
  cases he with
  | halts f => exact { h with grant_waits := nofun }
  | waits rs wait => exact { h with grant_waits := nofun }
  | completes completion =>
    obtain ⟨_, hbp, _, _, _, _, hcfg⟩ := completion.control
    exact { mem_wf := completion.mem.wf h.mem_wf
            pc_le := completion.pc_le hfits
            reserved := by rw [hcfg, completion.reserved, h.reserved]
            bp_wf := hbp ▸ h.bp_wf
            grant_waits := nofun }

theorem instructionStep_inv {s t : State} (h : s.Inv) (hstep : instructionStep s = .next t) :
    ({ t with grant := false } : State).Inv := by
  rcases instructionStep_cases hstep with ⟨f, _, rfl⟩ | ⟨i, hfetch, hexec⟩
  · exact { h with grant_waits := nofun }
  · exact (exec_cases hexec).inv h (fetch_fits hfetch)

/-- A Step that waits for the Bridge changes the replies only (R230). -/
theorem instructionStep_waiting {s t : State} (hw : s.waiting = true) (hstep : instructionStep s = .next t) :
    ∃ rs, t = { s with replies := rs } := by
  unfold State.waiting at hw
  split at hw
  · cases hw
  rename_i i hfetch
  obtain ⟨⟨port, rfl⟩, hbridge⟩ := waitsOn_eq_true hw
  have hin : instructionStep s = input port s := by rw [instructionStep, hfetch]; rfl
  rcases input_cases port s with ⟨hno, _⟩ | ⟨_, rs, h⟩
  · rw [hbridge] at hno
    cases hno
  · exact ⟨rs, Host.Outcome.next.inj (hstep.symm.trans (hin.trans h))⟩

theorem State.Inv.afterStep {u : State} (h : ({ u with grant := false } : State).Inv) (single : Bool) :
    (u.afterStep single).Inv where
  mem_wf := by simpa using h.mem_wf
  pc_le := by simpa using h.pc_le
  reserved := by simpa using h.reserved
  bp_wf := by simpa using h.bp_wf
  grant_waits := by simp

/-! The invariant over the host's events, each taken with no grant outstanding (R277, R290). -/

theorem State.Inv.withRun {s : State} (h : s.Inv) (hg : s.grant = false) (r : RunState) :
    ({ s with run := r } : State).Inv :=
  { h with grant_waits := fun hgrant => absurd (hg.symm.trans hgrant) Bool.false_ne_true }

theorem State.Inv.start {s : State} (h : s.Inv) (hg : s.grant = false) : s.start.Inv := by
  unfold State.start
  split
  case h_1 | h_2 | h_3 => exact h.withRun hg .running
  case h_4 | h_5 => exact h

theorem State.Inv.stop {s : State} (h : s.Inv) (hg : s.grant = false) : s.stop.Inv := by
  unfold State.stop
  split
  case h_1 => exact h
  all_goals exact h.withRun hg (.halted .requested)

theorem State.Inv.grantStep {s : State} (h : s.Inv) : s.grantStep.Inv := by
  unfold State.grantStep
  split
  case h_1 hrun | h_2 hrun => exact { h with grant_waits := fun _ => by simp [hrun, RunState.isWait] }
  all_goals exact h

theorem State.Inv.resetCore {s : State} (h : s.Inv) : s.resetCore.Inv where
  mem_wf := Memory.wf_nil
  pc_le := Nat.zero_le _
  reserved := by
    show resetFlags s.cfg &&& reservedMask = _
    rw [resetFlags, BitVec.and_assoc, BitVec.and_self]
    rfl
  bp_wf := h.bp_wf
  grant_waits := nofun

theorem State.Inv.setBreakpoints {s : State} (h : s.Inv) (addrs : List Int) : (s.setBreakpoints addrs).Inv := by
  unfold State.setBreakpoints
  split
  case isTrue hok =>
    have hlen : (addrSet addrs).length ≤ 5 := of_decide_eq_true (Bool.and_eq_true_iff.mp hok).2
    exact { h with bp_wf := ⟨(addrSet_spec addrs).1, hlen⟩ }
  case isFalse => exact h

theorem State.Inv.loadRom {s : State} (h : s.Inv) (hg : s.grant = false) (bytes : List Byte) :
    (s.loadRom bytes).Inv := by
  unfold State.loadRom
  split
  case h_1 =>
    split
    case isTrue hlen => exact { h with mem_wf := Memory.wf_load bytes h.mem_wf (by omega) }
    case isFalse => exact h.withRun hg (.halted (.romTooLarge bytes.length))
  all_goals exact h

theorem State.Inv.applyUsrPatch {s : State} (h : s.Inv) (bytes : Vector Byte 8) : (s.applyUsrPatch bytes).Inv := by
  unfold State.applyUsrPatch
  split
  case h_1 =>
    have hjump : (s.mem.load 0x0043 [0xF0, 0x0F]).wf := Memory.wf_load _ h.mem_wf (by decide)
    exact { h with mem_wf := Memory.wf_load _ hjump (by simp [memSize]) }
  all_goals exact h

theorem hostEvent_inv (ev : HostEvent) (s : State) (hg : s.grant = false) (h : s.Inv) : (hostEvent ev s).Inv := by
  cases ev with
  | start => exact h.start hg
  | stop => exact h.stop hg
  | step => exact h.grantStep
  | reset => exact h.resetCore
  | setBreakpoints addrs => exact h.setBreakpoints addrs
  | loadRom bytes => exact h.loadRom hg bytes
  | applyUsrPatch bytes => exact h.applyUsrPatch bytes
  | setSstep level => exact { h with }
  | setSwitches value => exact { h with }

theorem State.Inv.boundary {s : State} (h : s.Inv) (hg : s.grant = false) : s.boundary.Inv :=
  takeEvents_keeps (P := State.Inv) (fun _ _ h => { h with }) hostEvent_inv s.inbox s hg h

theorem State.active_of_isWait {s : State} (h : s.run.isWait = true) : s.active = s.grant := by
  cases hrun : s.run with
  | singleStepWait | breakpointHit => simp [State.active, hrun]
  | idle | running | halted => simp [RunState.isWait, hrun] at h

/-- A grant makes the core execute (R277): where it executes nothing, none is outstanding. -/
theorem State.Inv.grant_eq_false {s : State} (h : s.Inv) (ha : s.active = false) : s.grant = false := by
  by_contra hg
  have hg : s.grant = true := by simpa using hg
  have hact : s.active = true := (State.active_of_isWait (h.grant_waits hg)).trans hg
  rw [ha] at hact
  cases hact

/-- Settles O58: the three things a step can be, from the invariant over a Step, over the checks and over a boundary. -/
theorem stepKeepsInvariant : Obligations.StepKeepsInvariant := by
  intro s t h hstep
  rcases step_cases hstep with ⟨ha, rfl⟩ | ⟨_, hw, hwait⟩ | ⟨_, _, u, hu, rfl⟩
  · exact h.boundary (h.grant_eq_false ha)
  · obtain ⟨rs, rfl⟩ := instructionStep_waiting hw hwait
    exact { h with }
  · exact (instructionStep_inv h hu).afterStep s.single |>.boundary (by simp)

end Sys2Proof.Machine

/-! The family 30_encoding.md: the decoder reads exactly what the encoder writes (R70 to R83). -/

namespace Sys2Proof

/-! The decoder by the table entry of the opcode byte (R72, R81). -/

/-- The instruction at the front of some bytes, with `rest` left over, as the table entry of the opcode byte gives it. -/
inductive Reads (rest : List Byte) : List Byte → Instr → Prop where
  | f1 {op : Byte} {i : Instr} (entry : shapeOf op = .f1 i) : Reads rest (op :: rest) i
  | f2 {op : Byte} {k : Byte → Instr} (entry : shapeOf op = .f2 k) (b1 : Byte) : Reads rest (op :: b1 :: rest) (k b1)
  | f3 {op : Byte} {k : Word → Instr} (entry : shapeOf op = .f3 k) (b1 b2 : Byte) :
    Reads rest (op :: b1 :: b2 :: rest) (k (pair b2 b1))
  | none {op : Byte} (entry : shapeOf op = .none) : Reads rest (op :: rest) (.undefined op)

theorem Reads.decode_eq {rest bytes : List Byte} {i : Instr} (h : Reads rest bytes i) : decode bytes = .ok (i, rest) := by
  cases h with
  | f1 entry | f2 entry | f3 entry | none entry => simp only [decode, entry]

theorem reads_of_decode {rest bytes : List Byte} {i : Instr} (h : decode bytes = .ok (i, rest)) : Reads rest bytes i := by
  unfold decode at h
  split at h
  · cases h
  · split at h
    case h_1 entry => cases h; exact .f1 entry
    case h_2 entry => cases h; exact .f2 entry _
    case h_3 entry => cases h; exact .f3 entry _ _
    case h_4 entry => cases h; exact .none entry
    case h_5 => cases h

/-- With two operand bytes behind it every opcode byte is read, with the operands its entry counts (R70, R77). -/
theorem exists_reads (op b1 b2 : Byte) : ∃ i, Reads ([op, b1, b2].drop (1 + operandCount op)) [op, b1, b2] i := by
  unfold operandCount
  cases entry : shapeOf op with
  | f1 i => exact ⟨i, .f1 entry⟩
  | f2 k => exact ⟨k b1, .f2 entry b1⟩
  | f3 k => exact ⟨k (pair b2 b1), .f3 entry b1 b2⟩
  | none => exact ⟨.undefined op, .none entry⟩

/-! The map of R78 agrees with the Encoding lines of the rules. -/

/-- Every instruction that the table entry of the byte `op` can give is well-formed, and is encoded as `op` and its operand,
low byte first (R50). -/
inductive Shape.EncodedBy (op : Byte) : Shape → Prop where
  | f1 {i : Instr} (wf : i.wf = true) (enc : encode i = [op]) : EncodedBy op (.f1 i)
  | f2 {k : Byte → Instr} (wf : ∀ b1, (k b1).wf = true) (enc : ∀ b1, encode (k b1) = [op, b1]) : EncodedBy op (.f2 k)
  | f3 {k : Word → Instr} (wf : ∀ d16, (k d16).wf = true) (enc : ∀ d16, encode (k d16) = op :: lowHigh d16) :
    EncodedBy op (.f3 k)
  | none (wf : (Instr.undefined op).wf = true) : EncodedBy op .none

theorem opcodeMap_row_length : ∀ row ∈ opcodeMap, row.length = 16 := by decide

theorem opcodeMap_encodedBy : ∀ row ∈ opcodeMap.zipIdx, ∀ entry ∈ row.1.zipIdx,
    entry.1.EncodedBy (BitVec.ofNat 8 (row.2 * 16 + entry.2)) := by
  simp only [opcodeMap, List.zipIdx_cons, List.zipIdx_nil, List.forall_mem_cons, List.not_mem_nil, false_implies,
    implies_true, and_true]
  and_intros <;> constructor <;> intros <;> rfl

theorem shapeOf_encodedBy (op : Byte) : (shapeOf op).EncodedBy op := by
  have hop : op.toNat < 256 := op.isLt
  have hrow : op.toNat / 16 < opcodeMap.length := by
    rw [show opcodeMap.length = 16 from rfl]
    omega
  have hcol : op.toNat % 16 < opcodeMap[op.toNat / 16].length := by
    rw [opcodeMap_row_length _ (List.getElem_mem hrow)]
    omega
  have hentry := opcodeMap_encodedBy _ (List.mk_mem_zipIdx_iff_getElem?.mpr (List.getElem?_eq_getElem hrow)) _
    (List.mk_mem_zipIdx_iff_getElem?.mpr (List.getElem?_eq_getElem hcol))
  rw [shapeOf, List.getD_eq_getElem _ _ hrow, List.getD_eq_getElem _ _ hcol]
  simpa only [Nat.div_add_mod', BitVec.ofNat_toNat, BitVec.setWidth_eq] using hentry

/-- The 13 bytes of R79 have no entry. -/
theorem shapeOf_undefined {op : Byte} (h : op ∈ undefinedBytes) : shapeOf op = .none := by
  fin_cases h <;> rfl

theorem undefined_wf_iff (op : Byte) : (Instr.undefined op).wf = true ↔ op ∈ undefinedBytes := by simp [Instr.wf]

/-- What is read is well-formed, its opcode byte is the first of the bytes, and they are what the encoder writes for it. -/
theorem Reads.encoded {rest bytes : List Byte} {i : Instr} (h : Reads rest bytes i) :
    i.wf = true ∧ opcodeByte i = bytes.headD 0 ∧ encode i ++ rest = bytes := by
  cases h with
  | @f1 op _ entry =>
    cases entry ▸ shapeOf_encodedBy op with
    | f1 wf enc => exact ⟨wf, by rw [opcodeByte, enc]; rfl, by rw [enc]; rfl⟩
  | @f2 op _ entry b1 =>
    cases entry ▸ shapeOf_encodedBy op with
    | f2 wf enc => exact ⟨wf b1, by rw [opcodeByte, enc]; rfl, by rw [enc]; rfl⟩
  | @f3 op _ entry b1 b2 =>
    cases entry ▸ shapeOf_encodedBy op with
    | f3 wf enc => exact ⟨wf _, by rw [opcodeByte, enc]; rfl, by rw [enc, lowHigh, loByte_pair, hiByte_pair]; rfl⟩
  | @none op entry =>
    cases entry ▸ shapeOf_encodedBy op with
    | none wf => exact ⟨wf, rfl, rfl⟩

/-- A two-byte operand is read as it was written (R50, R51). -/
theorem Reads.of_lowHigh {op : Byte} {k : Word → Instr} (entry : shapeOf op = .f3 k) (d16 : Word) (rest : List Byte) :
    Reads rest (op :: lowHigh d16 ++ rest) (k d16) := by
  have h : Reads rest (op :: lowHigh d16 ++ rest) (k (pair (hiByte d16) (loByte d16))) := .f3 entry _ _
  rwa [pair_hi_lo] at h

/-- The map has every well-formed instruction, at the opcode byte that the encoder writes for it. -/
theorem reads_encode (i : Instr) (rest : List Byte) (h : i.wf = true) : Reads rest (encode i ++ rest) i := by
  cases i with
  | undefined op => exact .none (shapeOf_undefined ((undefined_wf_iff op).mp h))
  | lxiB w | lxiD w | lxiH w | lxiSp w | shld w | lhld w | sta w | lda w | jmp w | jnz w | jz w | jnc w | jc w | jpo w
  | jpe w | jp w | jm w | call w | cnz w | cz w | cnc w | cc w | cpo w | cpe w | cp w | cm w =>
    exact .of_lowHigh rfl w rest
  | mviB b | mviC b | mviD b | mviE b | mviH b | mviL b | mviM b | mviA b | adi b | aci b | sui b | sbi b | ani b | xri b
  | ori b | cpi b | inPort b | outPort b => exact .f2 rfl b
  | _ => exact .f1 rfl

/-- Settles O2: the encoder's bytes are read as the instruction, and the decoder answers what is read. -/
theorem encodeThenDecode : Obligations.EncodeThenDecode :=
  fun i rest h => (reads_encode i rest h).decode_eq

/-- Settles O3: the decoder answers only what is read, and what is read is encoded by the bytes it was read from. -/
theorem decodeThenEncode : Obligations.DecodeThenEncode := by
  intro bytes i rest h
  obtain ⟨hwf, _, henc⟩ := (reads_of_decode h).encoded
  exact ⟨hwf, henc⟩

/-- Settles O5: an opcode byte is read by its entry alone, whose operand count is by R70's lists, and the encoding of what
is read says whether that is undefined. -/
theorem everyByteDecodes : Obligations.EveryByteDecodes := by
  intro op b1 b2
  obtain ⟨i, h⟩ := exists_reads op b1 b2
  obtain ⟨hwf, hop, -⟩ := h.encoded
  refine ⟨i, h.decode_eq, hop, ⟨?_, ?_⟩, ?_⟩
  · rintro ⟨x, rfl⟩
    obtain rfl : x = op := hop
    exact (undefined_wf_iff x).mp hwf
  · intro hundef
    have hsame := h.decode_eq.symm.trans (Reads.none (shapeOf_undefined hundef)).decode_eq
    exact ⟨op, (Prod.mk.inj (Except.ok.inj hsame)).1⟩
  · clear h hwf hop
    decide +revert

/-! The field layout of R71: the byte built from each field has the entry of the instruction that its row names. The rows
with two fields come first. -/

/-- The MOV row, where both fields 6 is the undefined byte 0x76 (R103). -/
theorem decode_mov (d s : Loc) (rest : List Byte) :
    decode (BitVec.ofNat 8 (0x40 + 8 * d.code + s.code) :: rest) = .ok (Instr.movOf d s, rest) := by
  rcases d with r | _ <;> rcases s with q | _
  · cases r <;> cases q <;> rfl
  · cases r <;> rfl
  · cases q <;> rfl
  · rfl

theorem decode_alu (k : Alu) (s : Loc) (rest : List Byte) :
    decode (BitVec.ofNat 8 (0x80 + 8 * k.code + s.code) :: rest) = .ok (Instr.aluOf k s, rest) := by
  rcases s with q | _
  · cases k <;> cases q <;> rfl
  · cases k <;> rfl

/-- A register field is one of the seven registers or M (R73). -/
theorem Loc.forall_of_reg {P : Loc → Prop} (hreg : ∀ r, P (.reg r)) (hm : P .m) : ∀ x, P x
  | .reg r => hreg r
  | .m => hm

/-- Settles O4: row by row, the value of the field decides the entry. -/
theorem fieldLayoutNamesInstruction : Obligations.FieldLayoutNamesInstruction := by
  intro rest
  have hundefined : ([0x10, 0x18, 0x20, 0x28, 0x30, 0x38] : List Byte) ⊆ undefinedBytes := by decide
  exact ⟨
    fun d s => decode_mov d s rest,
    fun k s => decode_alu k s rest,
    -- INR, DCR, MVI
    Loc.forall_of_reg (fun r => by cases r <;> rfl) rfl,
    Loc.forall_of_reg (fun r => by cases r <;> rfl) rfl,
    Loc.forall_of_reg (fun r _ => by cases r <;> rfl) (fun _ => rfl),
    -- LXI, INX, DAD, DCX, STAX, LDAX
    fun p _ _ => by cases p <;> rfl,
    fun p => by cases p <;> rfl,
    fun p => by cases p <;> rfl,
    fun p => by cases p <;> rfl,
    fun p => by cases p <;> rfl,
    fun p => by cases p <;> rfl,
    -- the fixed bytes of the first quadrant
    fun _ _ => ⟨rfl, rfl, rfl, rfl⟩,
    ⟨rfl, rfl, rfl, rfl, rfl, rfl, rfl, rfl⟩,
    ⟨rfl, rfl, fun _ hop => (Reads.none (shapeOf_undefined (hundefined hop))).decode_eq⟩,
    -- conditional returns, jumps and calls, the alu operations on an immediate, RST
    fun cnd => by cases cnd <;> rfl,
    fun cnd _ _ => by cases cnd <;> rfl,
    fun cnd _ _ => by cases cnd <;> rfl,
    fun k _ => by cases k <;> rfl,
    fun n => by fin_cases n <;> rfl,
    -- POP, PUSH
    fun p => by cases p <;> rfl,
    fun p => by cases p <;> rfl,
    -- the fixed bytes of the last quadrant
    fun _ _ => ⟨rfl, rfl⟩,
    fun _ => ⟨rfl, rfl⟩,
    rfl, rfl, rfl, rfl, rfl, rfl, rfl⟩

/-- Settles O1: each word by its entry in the map. -/
theorem sampleWordsDecode : Obligations.SampleWordsDecode :=
  ⟨rfl, rfl, rfl, rfl, rfl, rfl, rfl, rfl, rfl, rfl, rfl, rfl⟩

end Sys2Proof

namespace Sys2Proof.Machine

open Sys2Proof.Claims

/-! The Step: where pc goes, and that it executes what the decoder reads at pc (R85). -/

/-- Settles O17: a completed transfer that is the same as a halt where it was has left pc where it was. -/
theorem pcAdvancesOrJumps : Obligations.PcAdvancesOrJumps := by
  intro i s t h
  cases exec_cases h with
  | halts f => exact .inr (.inr ⟨rfl, .inl ⟨_, rfl⟩⟩)
  | waits rs wait => exact .inr (.inr ⟨rfl, .inr wait⟩)
  | completes completion =>
    rcases completion.pc with hpc | ⟨htransfer, hpc⟩
    · exact .inl hpc
    · by_cases hsame : ∃ r, t = { s with run := .halted r }
      · obtain ⟨r, rfl⟩ := hsame
        exact .inr (.inr ⟨rfl, .inl ⟨r, rfl⟩⟩)
      · exact .inr (.inl ⟨htransfer, hpc, hsame⟩)

/-- `bytes` are what memory holds from pc upward (R72). -/
structure State.HoldsAtPc (s : State) (bytes : List Byte) : Prop where
  fits : s.pc + bytes.length ≤ memSize
  byte : ∀ k < bytes.length, bytes[k]? = some (s.mem.read (s.pc + k))

theorem State.HoldsAtPc.memRead_eq {s : State} {bytes : List Byte} (h : s.HoldsAtPc bytes) {k : Nat} {b : Byte}
    (hb : bytes[k]? = some b) : memRead s (s.pc + k) = .ok b := by
  have hk : k < bytes.length := (List.getElem?_eq_some_iff.mp hb).1
  have hfits := h.fits
  rw [memRead_ok (by omega), Option.some.inj (hb.symm.trans (h.byte k hk))]

theorem State.HoldsAtPc.opcode {s : State} {op : Byte} {tail : List Byte} (h : s.HoldsAtPc (op :: tail)) :
    ¬ s.pc ≥ memSize ∧ s.mem.read s.pc = op := by
  have hop : memRead s s.pc = .ok op := h.memRead_eq (k := 0) rfl
  have hpc := lt_memSize_of_memRead hop
  exact ⟨Nat.not_le.mpr hpc, Except.ok.inj ((memRead_ok hpc).symm.trans hop)⟩

/-- An opcode byte left out of IMPLEMENTED is fetched as undefined (R6). -/
theorem fetch_of_not_implemented {s : State} {op : Byte} {tail : List Byte} (hmem : s.HoldsAtPc (op :: tail))
    (himpl : implemented s.cfg op = false) : fetch s = .ok (.undefined op) := by
  simp [fetch, hmem.opcode, himpl]

/-- With an implemented opcode, fetch reads what the decoder reads at pc, the operand bytes too (R85). -/
theorem fetch_of_implemented {s : State} {op : Byte} {tail rest : List Byte} {i : Instr}
    (hreads : Reads rest (op :: tail) i) (hmem : s.HoldsAtPc (op :: tail)) (himpl : implemented s.cfg op = true) :
    fetch s = .ok i := by
  cases hreads with
  | f1 entry => simp [fetch, hmem.opcode, himpl, entry]
  | f2 entry b1 => simp [fetch, hmem.opcode, himpl, entry, hmem.memRead_eq (k := 1) rfl]
  | f3 entry b1 b2 =>
    simp [fetch, hmem.opcode, himpl, entry, hmem.memRead_eq (k := 1) rfl, hmem.memRead_eq (k := 2) rfl]
  | none entry => simp [fetch, hmem.opcode, himpl, entry]

/-- Fetch of the bytes at pc is their decoding: an undefined opcode is fetched whether IMPLEMENTED leaves it out or not. -/
theorem fetch_of_decode {s : State} {bytes rest : List Byte} {i : Instr} (hmem : s.HoldsAtPc bytes)
    (hdecode : decode bytes = .ok (i, rest))
    (hi : implemented s.cfg (bytes.headD 0) = true ∨ i = .undefined (bytes.headD 0)) : fetch s = .ok i := by
  rcases bytes with _ | ⟨op, tail⟩
  · cases hdecode
  · cases himpl : implemented s.cfg op
    case true => exact fetch_of_implemented (reads_of_decode hdecode) hmem himpl
    case false =>
      obtain rfl : i = .undefined op := hi.resolve_left (by simp [himpl])
      exact fetch_of_not_implemented hmem himpl

theorem State.waiting_of_fetch {s : State} {i : Instr} (h : fetch s = .ok i) : s.waiting = waitsOn i s := by
  simp only [State.waiting, h]

theorem instructionStep_of_fetch {s : State} {i : Instr} (h : fetch s = .ok i) : instructionStep s = exec i s := by
  simp only [instructionStep, h]

/-- A step while the core executes is the instruction fetched, then, unless it waits, the checks and the boundary. -/
theorem step_of_fetch {s t : State} {i : Instr} (hactive : s.active = true) (hfetch : fetch s = .ok i)
    (hexec : exec i s = .next t) :
    step s = if waitsOn i s then .next t else .next (t.afterStep s.single).boundary := by
  simp only [step, controllerStep, if_pos hactive, iteration, instructionStep_of_fetch hfetch, hexec,
    State.waiting_of_fetch hfetch]

/-- Settles O6: fetch reads what the decoder reads, a running core makes the single-step check by SSTEP, and a granted core
always. -/
theorem stepRunsDecodedInstruction : Obligations.StepRunsDecodedInstruction := by
  intro s bytes i rest hfits hmem hdecode hi
  have hfetch : fetch s = .ok i := fetch_of_decode ⟨hfits, hmem⟩ hdecode hi
  obtain ⟨t, ht⟩ := exec_next i s
  refine ⟨instructionStep_of_fetch hfetch, fun hrun => ?_, fun hwait hgrant => ?_⟩
  · have hactive : s.active = true := by simp [State.active, hrun]
    have hsingle : s.single = s.sstep := by simp [State.single, hrun]
    rw [step_of_fetch hactive hfetch ht, hsingle, ht]
  · have hactive : s.active = true := (State.active_of_isWait hwait).trans hgrant
    have hsingle : s.single = true := by
      have hrun : s.run ≠ .running := fun h => by simp [h, RunState.isWait] at hwait
      simp [State.single, hrun]
    rw [step_of_fetch hactive hfetch ht, hsingle, ht]

end Sys2Proof.Machine

/-! The family 40_data_transfer.md: what the data transfer instructions read and write, their encodings, and the halts
of their operand fetch and of their two-byte accesses. -/

namespace Sys2Proof

/-- What is read is one byte longer than the operand count of its opcode byte (R70). -/
theorem Reads.length_eq {rest bytes : List Byte} {i : Instr} (h : Reads rest bytes i) :
    bytes.length = 1 + operandCount (bytes.headD 0) + rest.length := by
  cases h with
  | f1 entry | f2 entry | f3 entry | none entry =>
    simp only [List.length_cons, List.headD_cons, operandCount, entry, Shape.operands]
    omega

end Sys2Proof

namespace Sys2Proof.Machine

open Sys2Proof.Claims

/-! Operand bytes and encodings. -/

/-- An operand byte past the end of memory halts the fetch, the first such byte being at 65536 (R85). -/
theorem fetch_operand_past_end {s : State} (hpc : s.pc < memSize) (himpl : implemented s.cfg (s.mem.read s.pc) = true)
    (hend : memSize ≤ s.pc + operandCount (s.mem.read s.pc)) : fetch s = .error (.outOfBounds 65536) := by
  have hat : ∀ k, s.pc + k = memSize → memRead s (s.pc + k) = .error (.outOfBounds 65536) :=
    fun k hk => by rw [hk]; rfl
  cases entry : shapeOf (s.mem.read s.pc) with
  | f1 | none =>
    simp only [operandCount, entry, Shape.operands] at hend
    omega
  | f2 k =>
    simp only [operandCount, entry, Shape.operands] at hend
    simp [fetch, Nat.not_le.mpr hpc, himpl, entry, hat 1 (by omega)]
  | f3 k =>
    simp only [operandCount, entry, Shape.operands] at hend
    rcases Nat.lt_or_ge (s.pc + 1) memSize with h1 | h1
    · simp [fetch, Nat.not_le.mpr hpc, himpl, entry, memRead_ok h1, hat 2 (by omega)]
    · simp [fetch, Nat.not_le.mpr hpc, himpl, entry, hat 1 (by omega)]

theorem operandsPastEnd_of_wf {i : Instr} (hwf : i.wf = true) : OperandsPastEnd i := by
  intro s hpc hop himpl hend
  have hlen : i.len = 1 + operandCount (opcodeByte i) := by
    simpa [Instr.len, opcodeByte] using (reads_encode i [] hwf).length_eq
  rw [hlen] at hend
  exact fetch_operand_past_end hpc (hop ▸ himpl) (by rw [hop, memSize]; omega)

/-- The bytes that decode to an instruction are its encoding, and its operand bytes are fetched inside memory only. -/
theorem encoding_of_decode {bytes : List Byte} {i : Instr} (h : decode bytes = .ok (i, [])) :
    encode i = bytes ∧ OperandsPastEnd i := by
  obtain ⟨hwf, henc⟩ := decodeThenEncode bytes i [] h
  exact ⟨by rwa [List.append_nil] at henc, operandsPastEnd_of_wf hwf⟩

/-! M and the pairs as addresses. -/

/-- The address of M is H*256 + L (R102). -/
theorem State.mAddr_eq_addrM (s : State) : s.mAddr = addrM s := pair_toNat s.h s.l

theorem State.loc_eq_valueOf (s : State) (x : Loc) : s.loc x = valueOf s x := by
  cases x with
  | reg r => rfl
  | m => rw [State.loc_m, s.mAddr_eq_addrM]; rfl

/-! Stores. -/

/-- An instruction that stores the byte `v` at `addr` and does nothing else. -/
theorem runs_store {i : Instr} {s : State} {addr addr' len : Nat} {v : Byte}
    (h : exec i s = done len { s with mem := s.mem.write addr v }) (haddr : addr = addr') :
    Runs i s fun t =>
      t.mem.read addr' = v ∧ OnlyStored s t [addr'] ∧ t = { s with mem := t.mem, pc := s.pc + len } := by
  subst haddr
  exact ⟨_, h, Memory.read_write_self _ _ _,
    fun _ hb => Memory.read_write_of_ne _ _ (List.ne_of_not_mem_cons hb), rfl⟩

/-- Of two bytes stored upward from an address, the lower is not overwritten by the higher. -/
theorem Memory.read_write_write_succ (m : Memory) (addr : Nat) (lo hi : Byte) :
    ((m.write addr lo).write (addr + 1) hi).read addr = lo := by
  rw [Memory.read_write_of_ne _ _ (Nat.ne_of_lt addr.lt_succ_self), Memory.read_write_self]

/-! MOV, MVI and LXI by their fields (R73, R74). -/

/-- Both fields 6 is no MOV (R103). -/
theorem exec_movOf {d x : Loc} (h : ¬ (d = .m ∧ x = .m)) (s : State) : exec (Instr.movOf d x) s = move d x s := by
  rcases d with r | _ <;> rcases x with q | _
  · cases r <;> cases q <;> rfl
  · cases r <;> rfl
  · cases q <;> rfl
  · exact absurd ⟨rfl, rfl⟩ h

theorem exec_mviOf (x : Loc) (d8 : Byte) (s : State) : exec (Instr.mviOf x d8) s = moveImm x d8 s := by
  rcases x with r | _
  · cases r <;> rfl
  · rfl

theorem done_setLoc_reg (s : State) (r : Reg) (v : Byte) (len : Nat) :
    done len (s.setLoc (.reg r) v) = .next { s.setReg r v with pc := s.pc + len } := by
  rw [done, State.advance, State.setLoc_reg, State.setReg_pc]

/-- The high byte goes to the first-named register of the pair (R12). -/
theorem State.setPair_pair (s : State) (hi lo : Byte) :
    s.setPair .bc (Sys2Proof.pair hi lo) = { s with b := hi, c := lo } ∧
    s.setPair .de (Sys2Proof.pair hi lo) = { s with d := hi, e := lo } ∧
    s.setPair .hl (Sys2Proof.pair hi lo) = { s with h := hi, l := lo } := by
  simp [State.setPair]

/-- Settles O18: MOV by its two fields, its encoding by the MOV row of R71. -/
theorem movCopies : Obligations.MovCopies := by
  refine ⟨fun r x s => ?_, fun r s => ?_, fun d x _ => (encoding_of_decode (decode_mov d x [])).1, rfl⟩
  · rw [exec_movOf (by simp), move, done_setLoc_reg, State.loc_eq_valueOf]
  · exact runs_store (exec_movOf (by simp) s) s.mAddr_eq_addrM

/-- Settles O19: MVI by its field and LXI by the bytes of the pair, their encodings by the rows of R71. -/
theorem mviAndLxiLoadImmediate : Obligations.MviAndLxiLoadImmediate := by
  obtain ⟨_, _, _, _, hmvi, hlxi, _⟩ := fieldLayoutNamesInstruction []
  refine ⟨fun r d8 s => ?_, fun d8 s => ?_, fun x d8 => encoding_of_decode (hmvi x d8), fun b1 b2 s => ?_,
    fun p b1 b2 => encoding_of_decode (hlxi p b1 b2)⟩
  · rw [exec_mviOf, moveImm, done_setLoc_reg]
  · exact runs_store (exec_mviOf .m d8 s) s.mAddr_eq_addrM
  · obtain ⟨hbc, hde, hhl⟩ := s.setPair_pair b2 b1
    exact ⟨congrArg (done 3) hbc, congrArg (done 3) hde, congrArg (done 3) hhl, rfl⟩

/-- Settles O20: LDA and STA by the operand, LDAX and STAX by the pair as an address. -/
theorem accumulatorLoadsAndStores : Obligations.AccumulatorLoadsAndStores := by
  refine ⟨fun a16 s => ⟨rfl, rfl, operandsPastEnd_of_wf rfl⟩,
    fun a16 s => ⟨runs_store rfl rfl, rfl, operandsPastEnd_of_wf rfl⟩, fun s => ?_,
    fun s => ⟨runs_store rfl (pair_toNat s.b s.c), runs_store rfl (pair_toNat s.d s.e)⟩, rfl, rfl, rfl, rfl⟩
  rw [← pair_toNat, ← pair_toNat]
  exact ⟨rfl, rfl⟩

/-- Settles O21: LHLD loads both bytes, or halts where the second is past the end of memory. -/
theorem lhldLoadsPair : Obligations.LhldLoadsPair := by
  intro a16 s
  refine ⟨fun hlt => ?_, fun hend => ?_, rfl, operandsPastEnd_of_wf rfl⟩
  · obtain ⟨_, h⟩ := (loadHL_cases a16 s).resolve_right (by omega)
    exact congrArg (takeHalt s) h
  · obtain ⟨_, h⟩ := (loadHL_cases a16 s).resolve_left (by omega)
    exact congrArg (takeHalt s) h

/-- Settles O22: SHLD stores both bytes, or halts before any store where the second is past the end of memory. -/
theorem shldStoresPair : Obligations.ShldStoresPair := by
  intro a16 s
  refine ⟨fun hlt => ?_, fun hend => ?_, rfl, operandsPastEnd_of_wf rfl⟩
  · obtain ⟨_, h⟩ := (storeHL_cases a16 s).resolve_right (by omega)
    exact ⟨_, congrArg (takeHalt s) h, Memory.read_write_write_succ _ _ _ _, Memory.read_write_self _ _ _,
      fun _ => (Stores.two a16.isLt hlt).read_of_not_mem, rfl⟩
  · obtain ⟨_, h⟩ := (storeHL_cases a16 s).resolve_left (by omega)
    exact congrArg (takeHalt s) h

/-- Settles O24: XTHL reads and stores both bytes at SP, or halts where the second is past the end of memory. -/
theorem xthlExchangesStackTop : Obligations.XthlExchangesStackTop := by
  intro s
  refine ⟨fun hlt => ?_, fun hend => ?_, rfl⟩
  · obtain ⟨_, h⟩ := (exchangeTop_cases s).resolve_right (by omega)
    exact ⟨_, congrArg (takeHalt s) h, rfl, rfl, Memory.read_write_write_succ _ _ _ _, Memory.read_write_self _ _ _,
      fun _ => (Stores.two s.sp.isLt hlt).read_of_not_mem, rfl⟩
  · obtain ⟨_, h⟩ := (exchangeTop_cases s).resolve_left (by omega)
    exact congrArg (takeHalt s) h

/-- Settles O23: each by its meaning, HL as a number (R11). -/
theorem xchgSphlPchlMovePairs : Obligations.XchgSphlPchlMovePairs := by
  refine ⟨fun s => ?_, rfl, rfl, rfl⟩
  rw [← pair_toNat, BitVec.ofNat_toNat, BitVec.setWidth_eq]
  exact ⟨rfl, rfl, rfl⟩

end Sys2Proof.Machine

/-! The family 41_increment_decrement.md: what INR, DCR, INX and DCX write, and their encodings. -/

namespace Sys2Proof.Machine

open Sys2Proof.Claims

/-! S, Z and P of a result, as a statement reads them off FLAGS (R26, R28). -/

/-- The statements count the 1 bits of a byte in a list, the model as a sum (R11). -/
theorem onesIn_eq_popcount (v : Byte) : onesIn v = popcount v := by
  have hbit : ∀ b : Bool, (if b = true then 1 else 0) = b.toNat := by decide
  simp only [onesIn, popcount, ← List.countP_eq_length_filter, List.range, List.range.loop, List.countP_cons,
    List.countP_nil, hbit]
  omega

/-- S, Z and P of a result, from the three bits of FLAGS as the model writes them. -/
theorem hasSZP_of_bits {t : State} {r : Byte} (hs : t.flags.getLsbD 7 = r.getLsbD 7)
    (hz : t.flags.getLsbD 6 = decide (r = 0)) (hp : t.flags.getLsbD 2 = (popcount r % 2 == 0)) : HasSZP t r :=
  ⟨hs, hz, by rw [onesIn_eq_popcount]; exact hp⟩

/-! INR and DCR (R120 to R125). -/

/-- The four flags that INR and DCR write. -/
theorem stepFlags_bits (op v r : Byte) (s : State) :
    (stepFlags op v r s).getLsbD 7 = r.getLsbD 7 ∧ (stepFlags op v r s).getLsbD 6 = decide (r = 0) ∧
    (stepFlags op v r s).getLsbD 2 = (popcount r % 2 == 0) ∧
    (stepFlags op v r s).getLsbD 4 = s.aux op v 1 false := by
  refine ⟨?_, ?_, ?_, ?_⟩ <;>
    simp [stepFlags, Flags.szp, Flags.setAC, Flags.setP, Flags.setZ, Flags.setS, BitVec.getLsbD_eq_getElem]
  rfl

/-- A state with the flags that INR and DCR write has the flags of the step (R120, R121). -/
theorem stepFlags_of_flags_eq {i : Instr} {v r : Byte} {s t : State} (h : t.flags = stepFlags (opcodeByte i) v r s) :
    StepFlags i v r s t := by
  obtain ⟨hs, hz, hp, hac⟩ := stepFlags_bits (opcodeByte i) v r s
  rw [← h] at hs hz hp hac
  exact ⟨hasSZP_of_bits hs hz hp, hac, h ▸ stepFlags_outside _ _ _ _⟩

/-- An instruction that writes `r` to its operand, the flags of that step, and nothing else. -/
theorem stepsOperand_of_exec {i : Instr} {x : Loc} {r : Byte} {s : State} (h : exec i s =
      done 1 { s.setLoc x r with flags := stepFlags (opcodeByte i) (valueOf s x) r s }) : StepsOperand i x r s := by
  cases x with
  | reg q =>
    refine ⟨_, h, s.reg_setReg_self q r, ?_, stepFlags_of_flags_eq rfl⟩
    rw [State.advance, State.setLoc_reg, State.setReg_pc]
  | m =>
    refine ⟨_, h, ?_, fun _ hb => ?_, rfl, stepFlags_of_flags_eq rfl⟩
    · rw [← s.mAddr_eq_addrM]
      exact Memory.read_write_self _ _ _
    · rw [← s.mAddr_eq_addrM] at hb
      exact Memory.read_write_of_ne _ _ (List.ne_of_not_mem_cons hb)

theorem exec_inrOf (x : Loc) (s : State) : exec (Instr.inrOf x) s = increment (opcodeByte (Instr.inrOf x)) x s := by
  rcases x with r | _
  · cases r <;> rfl
  · rfl

theorem exec_dcrOf (x : Loc) (s : State) : exec (Instr.dcrOf x) s = decrement (opcodeByte (Instr.dcrOf x)) x s := by
  rcases x with r | _
  · cases r <;> rfl
  · rfl

/-- Settles O25: the operand's value plus 1, with the flags of that step; the encoding by the INR row of R71. -/
theorem inrIncrements : Obligations.InrIncrements := by
  obtain ⟨_, _, hinr, _⟩ := fieldLayoutNamesInstruction []
  refine fun x s => ⟨⟨valueOf s x + 1, BitVec.toNat_add _ _, stepsOperand_of_exec ?_⟩, (encoding_of_decode (hinr x)).1⟩
  rw [exec_inrOf, increment, State.loc_eq_valueOf]

/-- Settles O26: the operand's value minus 1, with the flags of that step; the encoding by the DCR row of R71. -/
theorem dcrDecrements : Obligations.DcrDecrements := by
  obtain ⟨_, _, _, hdcr, _⟩ := fieldLayoutNamesInstruction []
  refine fun x s => ⟨⟨valueOf s x - 1, by bv_omega, stepsOperand_of_exec ?_⟩, (encoding_of_decode (hdcr x)).1⟩
  rw [exec_dcrOf, decrement, State.loc_eq_valueOf]

/-! INX and DCX (R126, R127). -/

theorem exec_inxOf (p : Pair) (s : State) : exec (Instr.inxOf p) s = done 1 (s.setPair p (s.pair p + 1)) := by
  cases p <;> rfl

theorem exec_dcxOf (p : Pair) (s : State) : exec (Instr.dcxOf p) s = done 1 (s.setPair p (s.pair p - 1)) := by
  cases p <;> rfl

theorem done_setPair (s : State) (p : Pair) (w : Word) (len : Nat) :
    done len (s.setPair p w) = .next { s.setPair p w with pc := s.pc + len } := by
  rw [done, State.advance, State.setPair_pc]

/-- Settles O27: the pair's value plus or minus 1, the encodings by the INX and DCX rows of R71. -/
theorem inxAndDcxWrap : Obligations.InxAndDcxWrap := by
  obtain ⟨_, _, _, _, _, _, hinx, _, hdcx, _⟩ := fieldLayoutNamesInstruction []
  exact fun p s => ⟨
    ⟨s.pair p + 1, BitVec.toNat_add _ _, by rw [exec_inxOf, done_setPair]⟩,
    ⟨s.pair p - 1, by bv_omega, by rw [exec_dcxOf, done_setPair]⟩,
    (encoding_of_decode (hinx p)).1, (encoding_of_decode (hdcx p)).1⟩

end Sys2Proof.Machine

/-! The family 42_double_add.md: what DAD writes, and its encoding. -/

namespace Sys2Proof.Machine

open Sys2Proof.Claims

/-- The bytes of a word, put together again, are its value (R11). -/
theorem hiByte_mul_add_loByte (w : Word) : (hiByte w).toNat * 256 + (loByte w).toNat = w.toNat := by
  rw [← pair_toNat, pair_hi_lo]

/-- CY after it is written (R12, R26). -/
theorem Flags.setCY_getLsbD_zero (f : Byte) (v : Bool) : (Flags.setCY f v).getLsbD 0 = v := by
  simp [Flags.setCY, BitVec.getLsbD_eq_getElem]

theorem exec_dadOf (p : Pair) (s : State) : exec (Instr.dadOf p) s = doubleAdd (s.pair p) s := by
  cases p <;> rfl

/-- Settles O28: the bytes of the sum, CY as it is written; the encoding by the DAD row of R71. -/
theorem dadAddsIntoHL : Obligations.DadAddsIntoHL := by
  obtain ⟨_, _, _, _, _, _, _, hdad, _⟩ := fieldLayoutNamesInstruction []
  refine fun p s => ⟨?_, (encoding_of_decode (hdad p)).1⟩
  rw [← pair_toNat]
  exact ⟨_, exec_dadOf p s, (hiByte_mul_add_loByte _).trans (BitVec.toNat_ofNat _ 16),
    Flags.setCY_getLsbD_zero _ _, Flags.setCY_outside _ _, rfl⟩

end Sys2Proof.Machine

/-! The family 43_arithmetic.md: what ADD, ADC, SUB, SBB and CMP write, on a register, M and an immediate, and their
encodings. -/

namespace Sys2Proof.Machine

open Sys2Proof.Claims

/-! The alu operations by their fields (R71). -/

/-- The model's meaning of the alu operation `k`, from its opcode byte, its operand and its length. -/
def aluMeaning (k : Alu) (op y : Byte) (len : Nat) (s : State) : Host.Outcome State Fault Refusal :=
  match k with
  | .add => addA op y len s
  | .adc => adcA op y len s
  | .sub => subA op y len s
  | .sbb => sbbA op y len s
  | .ana => andA y len s
  | .xra => xorA y len s
  | .ora => orA y len s
  | .cmp => cmpA op y len s

theorem exec_aluOf (k : Alu) (x : Loc) (s : State) :
    exec (Instr.aluOf k x) s = aluMeaning k (opcodeByte (Instr.aluOf k x)) (s.loc x) 1 s := by
  rcases x with r | _
  · cases k <;> cases r <;> rfl
  · cases k <;> rfl

theorem exec_aluImmOf (k : Alu) (d8 : Byte) (s : State) :
    exec (Instr.aluImmOf k d8) s = aluMeaning k (opcodeByte (Instr.aluImmOf k d8)) d8 2 s := by
  cases k <;> rfl

theorem decode_aluImm (k : Alu) (d8 : Byte) (rest : List Byte) :
    decode (BitVec.ofNat 8 (0xC6 + 8 * k.code) :: d8 :: rest) = .ok (Instr.aluImmOf k d8, rest) := by
  cases k <;> rfl

/-- What follows from the meaning of an alu operation holds of all its forms, which are encoded by the two alu rows of
R71. -/
theorem aluForms_of_meaning {k : Alu} {P : Instr → Byte → Nat → State → Prop}
    (h : ∀ i y len s, exec i s = aluMeaning k (opcodeByte i) y len s → P i y len s) : AluForms k P := by
  refine ⟨fun x s => h _ _ _ _ ?_, fun d8 s => h _ _ _ _ (exec_aluImmOf k d8 s),
    fun x => (encoding_of_decode (decode_alu k x [])).1, fun d8 => encoding_of_decode (decode_aluImm k d8 [])⟩
  rw [exec_aluOf, State.loc_eq_valueOf]

/-! The flags of a result, as a statement reads them off FLAGS (R26, R140). -/

/-- Where A, FLAGS and pc alone may differ and FLAGS is written as of the result `r`: S, Z and P of it, CY and AC as
given, and the reserved bits as before. -/
theorem flags_of_result {s t : State} {r : Byte} {cy ac : Bool} {len : Nat}
    (hframe : t = { s with a := t.a, flags := t.flags, pc := s.pc + len })
    (h : t.flags = Flags.result s.flags r cy ac) : HasSZP t r ∧ t.cy = cy ∧ t.ac = ac ∧ OnlyAFlags s t len := by
  obtain ⟨hs, hz, hac, hp, hcy⟩ := Flags.result_bits s.flags r cy ac
  rw [← h] at hs hz hac hp hcy
  exact ⟨hasSZP_of_bits hs hz hp, hcy, hac, hframe, h ▸ Flags.result_reserved _ _ _ _⟩

/-! Addition (R142, R144). -/

theorem addsToA_of_exec {i : Instr} {y : Byte} {cin : Bool} {len : Nat} {s : State}
    (h : exec i s = addWith (opcodeByte i) y cin len s) : AddsToA i y cin len s :=
  ⟨_, h, BitVec.toNat_ofNat _ 8, flags_of_result rfl rfl⟩

/-- Settles O30: the sum with no carry in. -/
theorem addSumsIntoA : Obligations.AddSumsIntoA := aluForms_of_meaning fun _ _ _ _ => addsToA_of_exec

/-- Settles O31: the sum with the old CY. -/
theorem adcSumsWithCarry : Obligations.AdcSumsWithCarry := aluForms_of_meaning fun _ _ _ _ => addsToA_of_exec

/-! Subtraction and comparison (R146, R148, R150). -/

/-- Narrowing an integer to a byte reduces it modulo 256 (R157). -/
theorem ofInt_byte_toNat (d : Int) : ((BitVec.ofInt 8 d).toNat : Int) = d % 256 := by
  rw [BitVec.toNat_ofInt]
  omega

/-- The integer difference is below 0 exactly where the subtraction borrows (R146, R148). -/
theorem difference_neg_iff (x y : Byte) (cin : Bool) : difference x y cin < 0 ↔ x.toNat < y.toNat + cin.toNat := by
  unfold difference
  omega

/-- The flags of a subtraction are those of the narrowed difference, CY being the borrow. -/
theorem flags_of_subtraction {op y : Byte} {cin : Bool} {s t : State} {len : Nat}
    (hframe : t = { s with a := t.a, flags := t.flags, pc := s.pc + len }) (h : t.flags = subtractFlags op y cin s) :
    HasSZP t (BitVec.ofInt 8 (difference s.a y cin)) ∧ t.cy = decide (s.a.toNat < y.toNat + cin.toNat) ∧
    t.ac = s.aux op s.a y cin ∧ OnlyAFlags s t len := by
  rw [← decide_eq_decide.mpr (difference_neg_iff s.a y cin)]
  exact flags_of_result hframe h

theorem subtractsFromA_of_exec {i : Instr} {y : Byte} {cin : Bool} {len : Nat} {s : State}
    (h : exec i s = subtractWith (opcodeByte i) y cin len s) : SubtractsFromA i y cin len s :=
  ⟨_, h, ofInt_byte_toNat _, flags_of_subtraction rfl rfl⟩

theorem comparesWithA_of_exec {i : Instr} {y : Byte} {len : Nat} {s : State}
    (h : exec i s = cmpA (opcodeByte i) y len s) : ComparesWithA i y len s := by
  have hdiff : difference s.a y false = s.a.toNat - y.toNat := Int.sub_zero _
  obtain ⟨hszp, hcy, hac, honly⟩ := flags_of_subtraction (s := s) (len := len)
    (t := ({ s with flags := subtractFlags (opcodeByte i) y false s } : State).advance len) rfl rfl
  exact ⟨_, h, _, hdiff ▸ ofInt_byte_toNat _, hszp, hcy, hac, rfl, honly⟩

/-- Settles O32: the difference with no borrow in. -/
theorem subSubtractsFromA : Obligations.SubSubtractsFromA := aluForms_of_meaning fun _ _ _ _ => subtractsFromA_of_exec

/-- Settles O33: the difference with the old CY. -/
theorem sbbSubtractsWithBorrow : Obligations.SbbSubtractsWithBorrow :=
  aluForms_of_meaning fun _ _ _ _ => subtractsFromA_of_exec

/-- Settles O34: the flags of SUB's difference, without its store to A. -/
theorem cmpComparesWithA : Obligations.CmpComparesWithA := aluForms_of_meaning fun _ _ _ _ => comparesWithA_of_exec

end Sys2Proof.Machine

/-! The family 44_logical.md: what the logical, complement, carry and rotate instructions write, and their encodings. -/

namespace Sys2Proof.Machine

open Sys2Proof.Claims

/-! The bitwise operations (R160 to R169). -/

/-- A bitwise result is given bit by bit, and its flags are those of a result with CY and AC cleared. -/
theorem combinesIntoA_of_exec {i : Instr} {f : Bool → Bool → Bool} {r y : Byte} {len : Nat} {s : State}
    (hr : ∀ k, r.getLsbD k = f (s.a.getLsbD k) (y.getLsbD k)) (h : exec i s = logicResult r len s) :
    CombinesIntoA i f y len s :=
  ⟨_, h, fun k _ => hr k, flags_of_result rfl rfl⟩

/-- Settles O35: ANA, XRA and ORA by the bits of the operation on bytes that each applies. -/
theorem logicCombinesIntoA : Obligations.LogicCombinesIntoA :=
  ⟨aluForms_of_meaning fun _ _ _ _ => combinesIntoA_of_exec fun _ => BitVec.getLsbD_and,
    aluForms_of_meaning fun _ _ _ _ => combinesIntoA_of_exec fun _ => BitVec.getLsbD_xor,
    aluForms_of_meaning fun _ _ _ _ => combinesIntoA_of_exec fun _ => BitVec.getLsbD_or⟩

/-! Complement and carry (R170 to R172). -/

/-- An instruction that writes CY and nothing else: the other seven bits of FLAGS stay (R12). -/
theorem runs_setCY {i : Instr} {s : State} {v : Bool}
    (h : exec i s = done 1 { s with flags := Flags.setCY s.flags v }) :
    Runs i s fun t => t.cy = v ∧ t.flags &&& 0xFE = s.flags &&& 0xFE ∧
      t = { s with flags := t.flags, pc := s.pc + 1 } :=
  ⟨_, h, Flags.setCY_getLsbD_zero _ _, Flags.setCY_outside _ _, rfl⟩

/-- Settles O36: the complement of A as a number, and CY as it is written. -/
theorem complementAndCarry : Obligations.ComplementAndCarry :=
  ⟨fun _ => ⟨_, rfl, BitVec.toNat_not, rfl⟩, fun _ => runs_setCY rfl, fun _ => runs_setCY rfl, rfl, rfl, rfl⟩

/-! The rotates (R173 to R176). -/

/-- What the model puts into the place that a rotate leaves free: a bit of a mask, or nothing. -/
theorem getLsbD_enter (enter : Bool) (mask : Byte) (k : Nat) :
    (if enter then mask else 0x00 : Byte).getLsbD k = (enter && mask.getLsbD k) := by
  cases enter
  · exact BitVec.getLsbD_zero
  · exact (Bool.true_and _).symm

/-- One place up, every bit but the last moves, and bit 0 is the one that enters. -/
theorem rotateLeft_bits (x : Byte) (enter : Bool) :
    (∀ k < 7, ((x <<< 1) ||| (if enter then 0x01 else 0x00)).getLsbD (k + 1) = x.getLsbD k) ∧
    ((x <<< 1) ||| (if enter then 0x01 else 0x00)).getLsbD 0 = enter := by
  simp only [BitVec.getLsbD_or, getLsbD_enter, BitVec.getLsbD_shiftLeft]
  refine ⟨fun k hk => ?_, ?_⟩
  · have hbound : k + 1 < 8 := by omega
    simp [hbound]
  · simp

/-- One place down, every bit but bit 0 moves, and bit 7 is the one that enters. -/
theorem rotateRight_bits (x : Byte) (enter : Bool) :
    (∀ k < 7, ((x >>> 1) ||| (if enter then 0x80 else 0x00)).getLsbD k = x.getLsbD (k + 1)) ∧
    ((x >>> 1) ||| (if enter then 0x80 else 0x00)).getLsbD 7 = enter := by
  have hmask : ∀ k < 7, (0x80 : Byte).getLsbD k = false := by decide
  simp only [BitVec.getLsbD_or, getLsbD_enter, BitVec.getLsbD_ushiftRight]
  refine ⟨fun k hk => ?_, ?_⟩
  · rw [hmask k hk]
    simp [Nat.add_comm]
  · simp

/-- Every rotate up is this one: what enters bit 0 is the instruction's own, the rest is common to RLC and RAL. -/
theorem runs_rotateLeft {i : Instr} {s : State} {enter : Bool} (h : exec i s = rotateLeft enter s) :
    Runs i s fun t =>
      (∀ k < 7, t.a.getLsbD (k + 1) = s.a.getLsbD k) ∧ t.a.getLsbD 0 = enter ∧ t.cy = s.a.getLsbD 7 ∧
      t.flags &&& 0xFE = s.flags &&& 0xFE ∧ t = { s with a := t.a, flags := t.flags, pc := s.pc + 1 } := by
  obtain ⟨hmoved, hentered⟩ := rotateLeft_bits s.a enter
  exact ⟨_, h, hmoved, hentered, Flags.setCY_getLsbD_zero _ _, Flags.setCY_outside _ _, rfl⟩

/-- Every rotate down is this one: what enters bit 7 is the instruction's own, the rest is common to RRC and RAR. -/
theorem runs_rotateRight {i : Instr} {s : State} {enter : Bool} (h : exec i s = rotateRight enter s) :
    Runs i s fun t =>
      (∀ k < 7, t.a.getLsbD k = s.a.getLsbD (k + 1)) ∧ t.a.getLsbD 7 = enter ∧ t.cy = s.a.getLsbD 0 ∧
      t.flags &&& 0xFE = s.flags &&& 0xFE ∧ t = { s with a := t.a, flags := t.flags, pc := s.pc + 1 } := by
  obtain ⟨hmoved, hentered⟩ := rotateRight_bits s.a enter
  exact ⟨_, h, hmoved, hentered, Flags.setCY_getLsbD_zero _ _, Flags.setCY_outside _ _, rfl⟩

/-- Settles O37: RLC and RRC by the bit shifted out, RAL and RAR by the old CY as the bit that enters. -/
theorem rotatesShiftOneBit : Obligations.RotatesShiftOneBit :=
  ⟨fun _ => runs_rotateLeft rfl, fun _ => runs_rotateRight rfl, fun _ => runs_rotateLeft rfl,
    fun _ => runs_rotateRight rfl, rfl, rfl, rfl, rfl⟩

end Sys2Proof.Machine

/-! The family 45_control_transfer.md: the conditions, where a jump goes, and the encodings of the jumps. -/

namespace Sys2Proof.Machine

open Sys2Proof.Claims

/-- `cond(ccc)` is the condition read off FLAGS (R181). -/
theorem State.cond_iff_holds (s : State) (cnd : Cond) : s.cond cnd = true ↔ Holds s cnd := by
  cases cnd with
  | z | c | pe | m => exact Iff.rfl
  | nz | nc | po | p => exact iff_of_eq (Bool.not_eq_true' _)

/-! Jumps (R184 to R192). -/

/-- JZ alone takes its target through REMAP (R183, R186). -/
theorem exec_jumpOf (cnd : Cond) (a16 : Word) (s : State) :
    exec (Instr.jumpOf cnd a16) s = jumpIf (s.cond cnd) (if cnd = .z then remapped s a16 else a16) s := by
  cases cnd <;> rfl

theorem exec_jumpOf_of_holds {s : State} {cnd : Cond} (h : Holds s cnd) (a16 : Word) :
    exec (Instr.jumpOf cnd a16) s = .next { s with pc := (if cnd = .z then remapped s a16 else a16).toNat } := by
  rw [exec_jumpOf, (s.cond_iff_holds cnd).mpr h]
  rfl

theorem exec_jumpOf_of_not_holds {s : State} {cnd : Cond} (h : ¬ Holds s cnd) (a16 : Word) :
    exec (Instr.jumpOf cnd a16) s = .next { s with pc := s.pc + 3 } := by
  rw [exec_jumpOf, Bool.eq_false_iff.mpr (mt (s.cond_iff_holds cnd).mp h)]
  rfl

theorem encode_jumpOf (cnd : Cond) (a16 : Word) :
    encode (Instr.jumpOf cnd a16) = [BitVec.ofNat 8 (0xC2 + 8 * cnd.code), loByte a16, hiByte a16] := by
  cases cnd <;> rfl

theorem jumpOf_wf (cnd : Cond) (a16 : Word) : (Instr.jumpOf cnd a16).wf = true := by
  cases cnd <;> rfl

/-- Settles O38: JMP by its meaning, a conditional jump by whether its condition holds. -/
theorem jumpsGoToTarget : Obligations.JumpsGoToTarget :=
  ⟨fun _ _ => ⟨rfl, rfl, operandsPastEnd_of_wf rfl⟩,
    fun cnd a16 _ => ⟨fun h => exec_jumpOf_of_holds h a16, fun h => exec_jumpOf_of_not_holds h a16,
      encode_jumpOf cnd a16, operandsPastEnd_of_wf (jumpOf_wf cnd a16)⟩⟩

end Sys2Proof.Machine

/-! The family 46_stack.md: the bytes below SP, and PUSH by its pair. -/

namespace Sys2Proof.Machine

open Sys2Proof.Claims

/-- With SP at least 2 the two addresses below SP differ and SP does not wrap, so both bytes of the word stay as stored
(R182). -/
theorem pushed_of_mem_sp {s t : State} {w : Word} (h : 2 ≤ s.sp.toNat)
    (hmem : t.mem = (s.mem.write (s.sp.toNat - 1) (hiByte w)).write (s.sp.toNat - 2) (loByte w))
    (hsp : t.sp = s.sp - 2) : Pushed s t w := by
  have hne : s.sp.toNat - 1 ≠ s.sp.toNat - 2 := by omega
  rw [Pushed, OnlyStored, hmem, hsp]
  exact ⟨by rw [Memory.read_write_of_ne _ _ hne, Memory.read_write_self], Memory.read_write_self _ _ _,
    BitVec.toNat_sub_of_le h, fun _ => (stores_below_sp s _ _).read_of_not_mem⟩

theorem exec_pushOf (p : StackPair) (s : State) : exec (Instr.pushOf p) s = pushValue (stackValue s p) s := by
  cases p <;> rfl

theorem encode_pushOf (p : StackPair) : encode (Instr.pushOf p) = [BitVec.ofNat 8 (0xC5 + 16 * p.code)] := by
  cases p <;> rfl

/-- Settles O44: PUSH by the value of its pair, stored below SP, or halted before any store where there is no room. -/
theorem pushStoresPair : Obligations.PushStoresPair := by
  intro p s
  refine ⟨fun hroom => ?_, fun hfull => ?_, encode_pushOf p⟩
  · obtain ⟨_, h⟩ := (pushValue_cases (stackValue s p) s).resolve_right (by omega)
    exact ⟨_, (exec_pushOf p s).trans h, pushed_of_mem_sp hroom rfl rfl, rfl⟩
  · obtain ⟨_, h⟩ := (pushValue_cases (stackValue s p) s).resolve_left (by omega)
    exact (exec_pushOf p s).trans h

end Sys2Proof.Machine

/-! The family 48_interrupt_control_and_misc.md: INTE, the no-ops, and the halt of an opcode outside IMPLEMENTED. -/

namespace Sys2Proof

/-- The bytes without a table entry are the 13 of R79. -/
theorem shapeOf_eq_none_iff (op : Byte) : shapeOf op = .none ↔ op ∈ undefinedBytes := by
  refine ⟨fun entry => ?_, shapeOf_undefined⟩
  cases entry ▸ shapeOf_encodedBy op with
  | none wf => exact (undefined_wf_iff op).mp wf

theorem Shape.isDefined_eq_false_iff (x : Shape) : x.isDefined = false ↔ x = .none := by
  cases x <;> simp [Shape.isDefined]

/-- What IMPLEMENTED leaves out: the undefined bytes, and those this machine takes out (R6). -/
theorem implemented_eq_false_iff (cfg : Config) (op : Byte) :
    implemented cfg op = false ↔ op ∈ undefinedBytes ∨ op ∈ cfg.unimplemented := by
  rw [implemented, Bool.and_eq_false_iff, Shape.isDefined_eq_false_iff, shapeOf_eq_none_iff, Bool.not_eq_false',
    List.contains_iff_mem]

end Sys2Proof

namespace Sys2Proof.Machine

open Sys2Proof.Claims

/-- A halt is no wait, and the checks after the Step use up the grant and leave the rest as the halt left it (R268). -/
theorem stepHalts_of_instructionStep {s : State} {r : HaltReason} (hwait : s.waiting = false)
    (h : instructionStep s = .next { s with run := .halted r }) : StepHalts s r := by
  refine ⟨h, fun hactive => ?_⟩
  rw [step, controllerStep, if_pos hactive, iteration, h, hwait]
  rfl

/-- Whatever lies behind the opcode byte, only that byte is read (R85). -/
theorem stepHalts_of_not_implemented {s : State} (hpc : s.pc < memSize)
    (himpl : implemented s.cfg (s.mem.read s.pc) = false) :
    StepHalts s (.undefinedOpcode s.pc (s.mem.read s.pc)) := by
  have hmem : s.HoldsAtPc [s.mem.read s.pc] :=
    { fits := hpc
      byte := fun k hk => by
        obtain rfl : k = 0 := Nat.lt_one_iff.mp hk
        rfl }
  have hfetch : fetch s = .ok (.undefined (s.mem.read s.pc)) := fetch_of_not_implemented hmem himpl
  exact stepHalts_of_instructionStep (State.waiting_of_fetch hfetch) (instructionStep_of_fetch hfetch)

/-- Settles O8: the byte is fetched as the instruction that halts, and IMPLEMENTED leaves out the bytes without an entry
and the list. -/
theorem undefinedOpcodeHalts : Obligations.UndefinedOpcodeHalts := by
  refine ⟨fun s hpc himpl => stepHalts_of_not_implemented hpc himpl, fun op s => rfl, fun cfg op hdefault => ?_,
    fun cfg op hout => (implemented_eq_false_iff cfg op).mpr (.inr hout)⟩
  have hiff := implemented_eq_false_iff cfg op
  rwa [hdefault, or_iff_left List.not_mem_nil] at hiff

/-- Settles O50: each by its meaning, the encodings by the opcode bytes of R240 to R243. -/
theorem interruptEnableAndNops : Obligations.InterruptEnableAndNops :=
  ⟨fun _ => ⟨rfl, rfl, rfl, rfl⟩, rfl, rfl, rfl, rfl⟩

end Sys2Proof.Machine

/-! The Step that halts: its fetch past the end of memory, and that a halt changes RUN only. -/

namespace Sys2Proof.Machine

open Sys2Proof.Claims

/-- A fetch that raises is no wait (R85, R265). -/
theorem stepHalts_of_fetch_error {s : State} {f : Fault} (h : fetch s = .error f) : StepHalts s f.reason :=
  stepHalts_of_instructionStep (by simp only [State.waiting, h]) (by simp only [instructionStep, h]; rfl)

/-- Settles O7: the bound check is the first thing the fetch does. -/
theorem opcodeFetchPastEndHalts : Obligations.OpcodeFetchPastEndHalts := by
  intro s hpc
  have hfetch : fetch s = .error (.outOfBounds s.pc) := if_pos hpc
  exact stepHalts_of_fetch_error hfetch

/-- Settles O9: the first operand byte past the end of memory is the one that is not fetched. -/
theorem operandFetchPastEndHalts : Obligations.OperandFetchPastEndHalts :=
  fun _ hpc himpl hend => stepHalts_of_fetch_error (fetch_operand_past_end hpc himpl hend)

/-- Of all an instruction can do, only halting writes RUN. -/
theorem Effect.halted_of_run_ne {i : Instr} {s t : State} (he : Effect i s t) (hrun : t.run ≠ s.run) :
    ∃ f : Fault, t = { s with run := .halted f.reason } := by
  cases he with
  | halts f => exact ⟨f, rfl⟩
  | waits rs wait => exact absurd rfl hrun
  | completes completion =>
    obtain ⟨hsame, _⟩ := completion.control
    exact absurd hsame hrun

/-- Settles O11: by what an instruction can do, and a halt of the fetch is the same halt. -/
theorem haltChangesOnlyRun : Obligations.HaltChangesOnlyRun := by
  refine ⟨fun i s t h hrun => (exec_cases h).halted_of_run_ne hrun, fun s t h hrun => ?_⟩
  rcases instructionStep_cases h with ⟨f, _, rfl⟩ | ⟨i, _, hexec⟩
  · exact ⟨f, rfl⟩
  · exact (exec_cases hexec).halted_of_run_ne hrun

end Sys2Proof.Machine

/-! The family 10_state.md: FLAGS, the control state, and what a program cannot see. -/

namespace Sys2Proof.Machine

open Sys2Proof.Claims

/-! What a whole step keeps. -/

/-- What each event of a queue keeps, taking the queue keeps (R280). `P` must not read the inbox. Unlike
`takeEvents_keeps` it asks for no grant to be absent, and only of the events of this queue. -/
theorem takeEvents_keeps_of_mem {P : State → Prop} (hinbox : ∀ s q, P s → P { s with inbox := q })
    (q : List (Nat × HostEvent)) (hev : ∀ x ∈ q, ∀ s, P s → P (hostEvent x.2 s)) (s : State) (h : P s) :
    P (takeEvents q s) := by
  induction q generalizing s with
  | nil => exact hinbox s [] h
  | cons x rest ih =>
    obtain ⟨n, ev⟩ := x
    cases n with
    | zero =>
      have hnext : P (hostEvent ev s) := hev (0, ev) List.mem_cons_self s h
      simp only [takeEvents]
      split
      · exact hinbox _ rest hnext
      · exact ih (fun y hy => hev y (List.mem_cons_of_mem _ hy)) _ hnext
    | succ n => exact hinbox s _ h

/-- What an instruction, the checks after it and every event of the host keep, every step keeps (R270, R272). -/
theorem step_keeps {P : State → Prop} (hinbox : ∀ s q, P s → P { s with inbox := q })
    (hev : ∀ ev s, P s → P (hostEvent ev s)) (hafter : ∀ s single, P s → P (s.afterStep single))
    (hinstr : ∀ s t, P s → instructionStep s = .next t → P t) {s t : State} (h : P s) (hstep : step s = .next t) :
    P t := by
  have hboundary : ∀ u, P u → P u.boundary :=
    fun u => takeEvents_keeps_of_mem hinbox u.inbox (fun x _ => hev x.2) u
  rcases step_cases hstep with ⟨_, rfl⟩ | ⟨_, _, hwait⟩ | ⟨_, _, u, hu, rfl⟩
  · exact hboundary s h
  · exact hinstr s t h hwait
  · exact hboundary _ (hafter u s.single (hinstr s u h hu))

/-- No event of the host writes the parameters, and only `reset` writes FLAGS (R290). -/
theorem hostEvent_cfg_flags (ev : HostEvent) (s : State) :
    (hostEvent ev s).cfg = s.cfg ∧ (ev ≠ .reset → (hostEvent ev s).flags = s.flags) := by
  cases ev with
  | start | stop | step | setBreakpoints | applyUsrPatch =>
    simp only [hostEvent, State.start, State.stop, State.grantStep, State.setBreakpoints, State.applyUsrPatch]
    split <;> exact ⟨rfl, fun _ => rfl⟩
  | reset => exact ⟨rfl, fun h => absurd rfl h⟩
  | loadRom bytes =>
    simp only [hostEvent, State.loadRom]
    split
    case h_1 => split <;> exact ⟨rfl, fun _ => rfl⟩
    all_goals exact ⟨rfl, fun _ => rfl⟩
  | setSstep | setSwitches => exact ⟨rfl, fun _ => rfl⟩

/-! FLAGS (R27). -/

/-- Outside the flags listed for it, an instruction leaves FLAGS as it was. -/
theorem Effect.flags {i : Instr} {s t : State} (he : Effect i s t) :
    t.flags &&& ~~~(flagsWritten i) = s.flags &&& ~~~(flagsWritten i) := by
  cases he with
  | halts f => rfl
  | waits rs wait => rfl
  | completes completion => exact completion.flags

/-- An instruction keeps what a reserved bit holds, and the parameters. -/
theorem Effect.reserved_cfg {i : Instr} {s t : State} (he : Effect i s t) :
    t.flags &&& reservedMask = s.flags &&& reservedMask ∧ t.cfg = s.cfg := by
  cases he with
  | halts f => exact ⟨rfl, rfl⟩
  | waits rs wait => exact ⟨rfl, rfl⟩
  | completes completion =>
    obtain ⟨_, _, _, _, _, _, hcfg⟩ := completion.control
    exact ⟨completion.reserved, hcfg⟩

theorem instructionStep_reserved_cfg {s t : State} (h : instructionStep s = .next t) :
    t.flags &&& reservedMask = s.flags &&& reservedMask ∧ t.cfg = s.cfg := by
  rcases instructionStep_cases h with ⟨f, _, rfl⟩ | ⟨i, _, hexec⟩
  · exact ⟨rfl, rfl⟩
  · exact (exec_cases hexec).reserved_cfg

/-- The reserved bits of FLAGS are those of FLAGS_RESET (R27). -/
def State.ReservedAsReset (s : State) : Prop := s.flags &&& reservedMask = s.cfg.flagsReset &&& reservedMask

theorem hostEvent_reservedAsReset (ev : HostEvent) (s : State) (h : s.ReservedAsReset) :
    (hostEvent ev s).ReservedAsReset := by
  by_cases hreset : ev = .reset
  · subst hreset
    show s.cfg.flagsReset &&& reservedMask &&& reservedMask = s.cfg.flagsReset &&& reservedMask
    rw [BitVec.and_assoc, BitVec.and_self]
  · obtain ⟨hcfg, hflags⟩ := hostEvent_cfg_flags ev s
    rwa [State.ReservedAsReset, hcfg, hflags hreset]

theorem step_reservedAsReset {s t : State} (h : s.ReservedAsReset) (hstep : step s = .next t) : t.ReservedAsReset := by
  refine step_keeps (P := State.ReservedAsReset) (fun _ _ h => h) hostEvent_reservedAsReset (fun u single h => ?_)
    (fun u v h hinstr => ?_) h hstep
  · rwa [State.ReservedAsReset, State.afterStep_flags, State.afterStep_cfg]
  · obtain ⟨hflags, hcfg⟩ := instructionStep_reserved_cfg hinstr
    rwa [State.ReservedAsReset, hflags, hcfg]

/-- Settles O12: the masks by what an instruction can do, the reserved bits by what a step keeps, PUSH PSW by PUSH. -/
theorem flagsChangeOnlyAsListed : Obligations.FlagsChangeOnlyAsListed := by
  refine ⟨fun i s t h => (exec_cases h).flags, fun i => ?_, fun s t h hstep => step_reservedAsReset h hstep,
    fun s hsp => ?_⟩
  · unfold flagsWritten
    split <;> rfl
  · obtain ⟨hpush, _⟩ := pushStoresPair .psw s
    obtain ⟨t, hexec, ⟨_, hlow, _⟩, _⟩ := hpush hsp
    exact ⟨t, hexec, hlow.trans (loByte_pair s.a s.flags)⟩

/-! The control state (R31, R32, R288). -/

/-- No instruction writes the control state, but that a halt writes RUN. -/
theorem Effect.control {i : Instr} {s t : State} (he : Effect i s t) :
    (t.run = s.run ∨ ∃ r, t.run = .halted r) ∧ t.bp = s.bp ∧ t.grant = s.grant ∧ t.sstep = s.sstep ∧ t.sw = s.sw ∧
    t.inbox = s.inbox ∧ t.cfg = s.cfg := by
  cases he with
  | halts f => exact ⟨.inr ⟨_, rfl⟩, rfl, rfl, rfl, rfl, rfl, rfl⟩
  | waits rs wait => exact ⟨.inl rfl, rfl, rfl, rfl, rfl, rfl, rfl⟩
  | completes completion => exact completion.control.imp_left .inl

theorem step_cfg {s t : State} (h : step s = .next t) : t.cfg = s.cfg :=
  step_keeps (P := fun u => u.cfg = s.cfg) (fun _ _ h => h) (fun ev u h => (hostEvent_cfg_flags ev u).1.trans h)
    (fun u single h => (u.afterStep_cfg single).trans h)
    (fun _ _ h hinstr => (instructionStep_reserved_cfg hinstr).2.trans h) rfl h

/-- Settles O15: by what an instruction can do, and the parameters by what a step keeps. -/
theorem controlStateIsUntouched : Obligations.ControlStateIsUntouched :=
  ⟨fun _ _ _ h => (exec_cases h).control, fun _ _ => step_cfg⟩

end Sys2Proof.Machine

/-! IN by what the Bridge does next (R230, R231). -/

namespace Sys2Proof.Machine

/-- The byte that IN gets where the Bridge answers `v`: from port 0xFF it is the high half of SW (R286). -/
def State.inputByte (s : State) (port v : Byte) : Byte := if port = 0xFF then hiByte s.sw else v

theorem State.inputByte_sense (s : State) (v : Byte) : s.inputByte 0xFF v = hiByte s.sw := if_pos rfl

theorem State.inputByte_of_ne (s : State) {port : Byte} (v : Byte) (h : port ≠ 0xFF) : s.inputByte port v = v :=
  if_neg h

theorem input_of_byte (port : Byte) {v : Byte} {rest : List BridgeReply} {s : State} (h : s.replies = .byte v :: rest) :
    input port s = .next { s with
      a := s.inputByte port v, replies := rest
      io := s.io ++ [.read (s.pc + s.cfg.ioPcView.val) port (s.inputByte port v)], pc := s.pc + 2 } := by
  simp only [input, h]
  rfl

theorem input_of_nil (port : Byte) {s : State} (h : s.replies = []) :
    let v := s.inputByte port (Config.bridgeByte s.io.length (s.pc + s.cfg.ioPcView.val) port)
    input port s = .next { s with
      a := v, io := s.io ++ [.read (s.pc + s.cfg.ioPcView.val) port v], pc := s.pc + 2 } := by
  intro v
  have hdone : input port s = inputDone port v s := by
    simp only [input, h]
    rfl
  exact hdone

theorem input_of_later (port : Byte) {rest : List BridgeReply} {s : State} (h : s.replies = .later :: rest) :
    input port s = .next { s with replies := rest } := by
  simp only [input, h]

theorem input_of_never (port : Byte) {rest : List BridgeReply} {s : State} (h : s.replies = .never :: rest) :
    input port s = .next s := by
  simp only [input, h]

end Sys2Proof.Machine

/-! What a program cannot see: no instruction reads the fields that `visible` forgets (R30, R288). -/

namespace Sys2Proof.Machine

open Sys2Proof.Claims

/-- An outcome as far as a program can see its state. -/
def seen : Host.Outcome State Fault Refusal → Host.Outcome State Fault Refusal
  | .next t => .next (visible t)
  | .fault f => .fault f
  | .refused r => .refused r

/-! Each operation that can raise does the same to `visible s` as to `s`. -/

theorem pushWord_visible (s : State) (w : Word) : pushWord (visible s) w = (pushWord s w).map visible := by
  rcases pushWord_cases s w with ⟨hsp, h⟩ | ⟨hsp, h⟩
  · rw [h]
    exact pushWord_error w hsp
  · rw [h]
    exact pushWord_ok w hsp

theorem popWord_visible (s : State) : popWord (visible s) = (popWord s).map (Prod.map id visible) := by
  rcases popWord_cases s with ⟨hsp, h⟩ | ⟨hsp, h⟩
  · rw [h]
    exact popWord_error hsp
  · rw [h]
    exact popWord_ok hsp

theorem loadHL_visible (a16 : Word) (s : State) : loadHL a16 (visible s) = (loadHL a16 s).map visible := by
  rcases loadHL_cases a16 s with ⟨hlt, h⟩ | ⟨hend, h⟩
  · rw [h]
    exact ((loadHL_cases a16 (visible s)).resolve_right (by omega)).2
  · rw [h]
    exact ((loadHL_cases a16 (visible s)).resolve_left (by omega)).2

theorem storeHL_visible (a16 : Word) (s : State) : storeHL a16 (visible s) = (storeHL a16 s).map visible := by
  rcases storeHL_cases a16 s with ⟨hlt, h⟩ | ⟨hend, h⟩
  · rw [h]
    exact ((storeHL_cases a16 (visible s)).resolve_right (by omega)).2
  · rw [h]
    exact ((storeHL_cases a16 (visible s)).resolve_left (by omega)).2

theorem exchangeTop_visible (s : State) : exchangeTop (visible s) = (exchangeTop s).map visible := by
  have hsp : (visible s).sp = s.sp := rfl
  rcases exchangeTop_cases s with ⟨hlt, h⟩ | ⟨hend, h⟩
  · rw [h]
    exact ((exchangeTop_cases (visible s)).resolve_right (by rw [hsp]; omega)).2
  · rw [h]
    exact ((exchangeTop_cases (visible s)).resolve_left (by rw [hsp]; omega)).2

/-- A halt writes RUN, which cannot be seen. -/
theorem seen_takeHalt {s : State} {x y : Except Fault State} (h : y = x.map visible) :
    seen (takeHalt (visible s) y) = seen (takeHalt s x) := by
  subst h
  cases x <;> rfl

theorem seen_jumpIf (taken : Bool) (target : Word) (s : State) :
    seen (jumpIf taken target (visible s)) = seen (jumpIf taken target s) := by
  cases taken <;> rfl

theorem seen_callTo (target : Word) (len : Nat) (s : State) :
    seen (callTo target len (visible s)) = seen (callTo target len s) := by
  refine seen_takeHalt ?_
  rw [pushWord_visible]
  show ite (s.pc + len ≥ memSize) _
    (Except.map _ (Except.map visible (pushWord s (BitVec.ofNat 16 (s.pc + len))))) = _
  split
  · rfl
  · cases pushWord s (BitVec.ofNat 16 (s.pc + len)) <;> rfl

theorem seen_callIf (taken : Bool) (target : Word) (s : State) :
    seen (callIf taken target (visible s)) = seen (callIf taken target s) := by
  cases taken
  case false => rfl
  case true => exact seen_callTo target 3 s

theorem seen_returnVia (via : Word → Word) (s : State) :
    seen (returnVia via (visible s)) = seen (returnVia via s) := by
  refine seen_takeHalt ?_
  rw [popWord_visible]
  cases popWord s <;> rfl

theorem seen_returnIf (taken : Bool) (via : Word → Word) (s : State) :
    seen (returnIf taken via (visible s)) = seen (returnIf taken via s) := by
  cases taken
  case false => rfl
  case true => exact seen_returnVia via s

theorem seen_pushValue (w : Word) (s : State) : seen (pushValue w (visible s)) = seen (pushValue w s) := by
  refine seen_takeHalt ?_
  rw [pushWord_visible]
  cases pushWord s w <;> rfl

theorem seen_popPair (p : Pair) (s : State) : seen (popPair p (visible s)) = seen (popPair p s) := by
  refine seen_takeHalt ?_
  rw [popWord_visible]
  cases popWord s
  case error => rfl
  case ok => cases p <;> rfl

theorem seen_popAccFlags (s : State) : seen (popAccFlags (visible s)) = seen (popAccFlags s) := by
  refine seen_takeHalt ?_
  rw [popWord_visible]
  cases popWord s <;> rfl

theorem seen_input (port : Byte) (s : State) : seen (input port (visible s)) = seen (input port s) := by
  rcases hreplies : s.replies with _ | ⟨v | _ | _, rest⟩
  · rw [input_of_nil (s := visible s) port hreplies, input_of_nil port hreplies]
    rfl
  · rw [input_of_byte (s := visible s) port hreplies, input_of_byte port hreplies]
    rfl
  · rw [input_of_later (s := visible s) port hreplies, input_of_later port hreplies]
    rfl
  · rw [input_of_never (s := visible s) port hreplies, input_of_never port hreplies]
    rfl

/-- Apart from the operations above, an instruction writes its next state from what can be seen. -/
theorem seen_exec (i : Instr) (s : State) : seen (exec i (visible s)) = seen (exec i s) := by
  cases i with
  | jnz | jz | jnc | jc | jpo | jpe | jp | jm => exact seen_jumpIf _ _ s
  | call | rst0 | rst1 | rst2 | rst3 | rst4 | rst5 | rst6 | rst7 => exact seen_callTo _ _ s
  | cnz | cz | cnc | cc | cpo | cpe | cp | cm => exact seen_callIf _ _ s
  | ret => exact seen_returnVia s.target s
  | rnz | rnc | rc | rpo | rpe | rp | rm => exact seen_returnIf _ id s
  | rz => exact seen_returnIf _ s.target s
  | pushB | pushD | pushH | pushPsw => exact seen_pushValue _ s
  | popB | popD | popH => exact seen_popPair _ s
  | popPsw => exact seen_popAccFlags s
  | lhld a16 => exact seen_takeHalt (loadHL_visible a16 s)
  | shld a16 => exact seen_takeHalt (storeHL_visible a16 s)
  | xthl => exact seen_takeHalt (exchangeTop_visible s)
  | inPort port => exact seen_input port s
  | _ => rfl

/-- Settles O16: two states that look the same have the same visible part, from which both next states are seen. -/
theorem debugStateIsInvisible : Obligations.DebugStateIsInvisible := by
  intro i s u t v hsame ht hv
  have hnext : seen (.next t) = seen (.next v) :=
    calc seen (.next t) = seen (exec i (visible s)) := by rw [seen_exec, ht]
      _ = seen (exec i (visible u)) := by rw [hsame]
      _ = seen (.next v) := by rw [seen_exec, hv]
  exact Host.Outcome.next.inj hnext

end Sys2Proof.Machine

/-! The family 45_control_transfer.md: calls and returns, their encodings, and that a RET undoes a CALL. -/

namespace Sys2Proof.Machine

open Sys2Proof.Claims

/-! Calls (R193 to R201, R211). -/

/-- A call completes where its return address and the two bytes below SP are in range, and halts otherwise. -/
theorem callsTarget_of_exec {i : Instr} {target : Word} {len : Nat} {s : State} (h : exec i s = callTo target len s) :
    CallsTarget i target len s := by
  rcases callTo_cases target len s with ⟨hpc, hcall⟩ | ⟨hpc, hsp, hcall⟩ | ⟨hpc, hsp, hcall⟩
  · exact ⟨fun _ _ => by omega, fun _ => h.trans hcall, fun _ _ => by omega⟩
  · exact ⟨fun _ _ => by omega, fun _ => by omega, fun _ _ => h.trans hcall⟩
  · exact ⟨fun _ _ => ⟨_, h.trans hcall, pushed_of_mem_sp hsp rfl rfl, rfl, rfl⟩, fun _ => by omega,
      fun _ _ => by omega⟩

/-- Settles O39: CALL by its meaning. -/
theorem callPushesReturnAddress : Obligations.CallPushesReturnAddress :=
  fun _ _ => ⟨callsTarget_of_exec rfl, rfl, operandsPastEnd_of_wf rfl⟩

theorem exec_callOf (cnd : Cond) (a16 : Word) (s : State) :
    exec (Instr.callOf cnd a16) s = callIf (s.cond cnd) a16 s := by
  cases cnd <;> rfl

theorem encode_callOf (cnd : Cond) (a16 : Word) :
    encode (Instr.callOf cnd a16) = [BitVec.ofNat 8 (0xC4 + 8 * cnd.code), loByte a16, hiByte a16] := by
  cases cnd <;> rfl

theorem callOf_wf (cnd : Cond) (a16 : Word) : (Instr.callOf cnd a16).wf = true := by
  cases cnd <;> rfl

/-- Settles O40: taken, a conditional call is CALL. -/
theorem conditionalCallsTestOneFlag : Obligations.ConditionalCallsTestOneFlag := by
  intro cnd a16 s
  refine ⟨fun h => callsTarget_of_exec ?_, fun h => ?_, encode_callOf cnd a16,
    operandsPastEnd_of_wf (callOf_wf cnd a16)⟩
  · rw [exec_callOf, (s.cond_iff_holds cnd).mpr h]
    rfl
  · rw [exec_callOf, Bool.eq_false_iff.mpr (mt (s.cond_iff_holds cnd).mp h)]
    rfl

theorem exec_rstOf (n : Fin 8) (s : State) :
    exec (Instr.rstOf n) s = callTo (BitVec.ofNat 16 (8 * n.val)) 1 s := by
  fin_cases n <;> rfl

theorem encode_rstOf : ∀ n : Fin 8, encode (Instr.rstOf n) = [BitVec.ofNat 8 (0xC7 + 8 * n.val)] := by
  decide

/-- Settles O43: RST n is a call of its vector 8 n, one byte long. -/
theorem rstCallsItsVector : Obligations.RstCallsItsVector :=
  fun n s => ⟨callsTarget_of_exec (exec_rstOf n s), encode_rstOf n⟩

/-! Returns (R202 to R210). -/

/-- SP + 2 modulo 65536 (R182). -/
theorem sp_add_two (sp : Word) : sp + 2 = BitVec.ofNat 16 (sp.toNat + 2) := by
  rw [BitVec.ofNat_add, BitVec.ofNat_toNat, BitVec.setWidth_eq]
  rfl

/-- A return completes below SP = 0xFFFF and halts there. -/
theorem returnsVia_of_exec {i : Instr} {via : Word → Word} {s : State} (h : exec i s = returnVia via s) :
    ReturnsVia i via s := by
  rw [ReturnsVia, ← sp_add_two]
  rcases returnVia_cases via s with ⟨hsp, hret⟩ | ⟨hsp, hret⟩
  · exact ⟨fun _ => h.trans hret, fun _ => by omega⟩
  · exact ⟨fun _ => by omega, fun _ => h.trans hret⟩

/-- Settles O41: RET by its meaning. -/
theorem retPopsIntoPc : Obligations.RetPopsIntoPc := fun _ => ⟨returnsVia_of_exec rfl, rfl⟩

theorem exec_retOf (cnd : Cond) (s : State) :
    exec (Instr.retOf cnd) s = returnIf (s.cond cnd) (fun w => if cnd = .z then remapped s w else w) s := by
  cases cnd <;> rfl

theorem encode_retOf (cnd : Cond) : encode (Instr.retOf cnd) = [BitVec.ofNat 8 (0xC0 + 8 * cnd.code)] := by
  cases cnd <;> rfl

/-- Settles O42: taken, RZ is RET and the others are RET without REMAP. -/
theorem conditionalReturnsTestOneFlag : Obligations.ConditionalReturnsTestOneFlag := by
  intro cnd s
  refine ⟨fun h => returnsVia_of_exec ?_, fun h => ?_, encode_retOf cnd⟩
  · rw [exec_retOf, (s.cond_iff_holds cnd).mpr h]
    rfl
  · rw [exec_retOf, Bool.eq_false_iff.mpr (mt (s.cond_iff_holds cnd).mp h)]
    rfl

/-! What a pop finds after a push (R180, R182, R220). -/

/-- After a push with room below SP, a pop reads the word pushed and takes SP back to where it was. -/
theorem popped_of_pushed {s t : State} {w : Word} (h : Pushed s t w) (hsp : 2 ≤ s.sp.toNat) :
    t.sp.toNat < 65535 ∧ popped t = w ∧ BitVec.ofNat 16 (t.sp.toNat + 2) = s.sp := by
  obtain ⟨hhigh, hlow, htsp, _⟩ := h
  have hlt : s.sp.toNat < 65536 := s.sp.isLt
  have hsucc : s.sp.toNat - 2 + 1 = s.sp.toNat - 1 := by omega
  have hback : s.sp.toNat - 2 + 2 = s.sp.toNat := by omega
  refine ⟨by omega, ?_, ?_⟩
  · rw [Claims.popped, htsp, hsucc, hhigh, hlow, pair_hi_lo]
  · rw [htsp, hback, BitVec.ofNat_toNat, BitVec.setWidth_eq]

/-- What an instruction runs to is the next state it answers. -/
theorem of_runs {i : Instr} {s t : State} {P : State → Prop} (h : Runs i s P) (ht : exec i s = .next t) : P t :=
  Ends.of_next h ht

/-- Settles O47: RET pops what CALL pushed, and the return address is below 65536. -/
theorem callThenRetReturns : Obligations.CallThenRetReturns := by
  intro a16 s t u hpc hsp hcall hret
  obtain ⟨⟨hcompletes, _⟩, _⟩ := callPushesReturnAddress a16 s
  obtain ⟨hpushed, _, hframe⟩ := of_runs (hcompletes hpc hsp) hcall
  obtain ⟨hlt, hpopped, hback⟩ := popped_of_pushed hpushed hsp
  obtain ⟨⟨hreturns, _⟩, _⟩ := retPopsIntoPc t
  have hremap : remapped t = remapped s := by rw [hframe]; rfl
  have hu : u = { s with mem := t.mem, pc := (remapped s (BitVec.ofNat 16 (s.pc + 3))).toNat } := by
    rw [Host.Outcome.next.inj (hret.symm.trans (hreturns hlt)), hpopped, hback, hremap, hframe]
  obtain ⟨_, _, _, honly⟩ := hpushed
  refine ⟨hu, by rwa [hu], fun hempty => ?_⟩
  rw [hu, remapped, hempty]
  exact Nat.mod_eq_of_lt hpc

end Sys2Proof.Machine

/-! The family 46_stack.md: POP by its pair, and that a POP undoes a PUSH. -/

namespace Sys2Proof.Machine

open Sys2Proof.Claims

theorem popPair_of_lt {s : State} (p : Pair) (h : s.sp.toNat < 65535) : popPair p s =
    .next ((({ s with sp := BitVec.ofNat 16 (s.sp.toNat + 2) } : State).setPair p (popped s)).advance 1) := by
  rw [← sp_add_two]
  exact ((popPair_cases p s).resolve_right (by omega)).2

theorem popOf_halts {p : StackPair} {s : State} (h : s.sp.toNat = 65535) :
    Halts (Instr.popOf p) s (.outOfBounds 65536) := by
  cases p with
  | bc | de | hl => exact ((popPair_cases _ s).resolve_left (by omega)).2
  | psw => exact ((popAccFlags_cases s).resolve_left (by omega)).2

theorem encode_popOf (p : StackPair) : encode (Instr.popOf p) = [BitVec.ofNat 8 (0xC1 + 16 * p.code)] := by
  cases p <;> rfl

/-- Settles O45: POP of a pair by the pair's two registers, POP PSW by A and the five flags. -/
theorem popLoadsPair : Obligations.PopLoadsPair := by
  refine ⟨fun s h => ⟨popPair_of_lt .bc h, popPair_of_lt .de h, popPair_of_lt .hl h, ?_⟩,
    fun p s => ⟨popOf_halts, encode_popOf p⟩⟩
  rw [← sp_add_two, popped, hiByte_pair, loByte_pair]
  exact ((popAccFlags_cases s).resolve_right (by omega)).2

/-- The five flags and the reserved bits of a byte are the byte (R26). -/
theorem reserved_or_flags (f : Byte) : (f &&& 0x2A) ||| (f &&& 0xD5) = f := by
  rw [← BitVec.and_or_distrib_left]
  exact BitVec.and_allOnes

/-- A pop of what a pair already holds changes SP and pc only. -/
theorem exec_popOf_own_value {p : StackPair} {s : State} (h : s.sp.toNat < 65535) (hown : popped s = stackValue s p) :
    exec (Instr.popOf p) s = .next { s with sp := BitVec.ofNat 16 (s.sp.toNat + 2), pc := s.pc + 1 } := by
  obtain ⟨hloads, _⟩ := popLoadsPair
  obtain ⟨hbc, hde, hhl, hpsw⟩ := hloads s h
  rw [hown] at hbc hde hhl hpsw
  cases p with
  | bc => simpa only [Instr.popOf, stackValue, hiByte_pair, loByte_pair] using hbc
  | de => simpa only [Instr.popOf, stackValue, hiByte_pair, loByte_pair] using hde
  | hl => simpa only [Instr.popOf, stackValue, hiByte_pair, loByte_pair] using hhl
  | psw => simpa only [Instr.popOf, stackValue, hiByte_pair, loByte_pair, reserved_or_flags] using hpsw

/-- Settles O46: POP finds what PUSH stored, which the pair still holds. -/
theorem pushThenPopRestores : Obligations.PushThenPopRestores := by
  intro p s t u hsp hpush hpop
  obtain ⟨hstores, _⟩ := pushStoresPair p s
  obtain ⟨hpushed, hframe⟩ := of_runs (hstores hsp) hpush
  obtain ⟨hlt, hpopped, hback⟩ := popped_of_pushed hpushed hsp
  have hown : popped t = stackValue t p := by
    rw [hpopped, hframe]
    cases p <;> rfl
  have hu : u = { s with mem := t.mem, pc := s.pc + 2 } := by
    rw [Host.Outcome.next.inj (hpop.symm.trans (exec_popOf_own_value hlt hown)), hback, hframe]
  obtain ⟨_, _, _, honly⟩ := hpushed
  exact ⟨hu, by rwa [hu]⟩

end Sys2Proof.Machine

/-! The family 47_io.md: IN by what the Bridge does, OUT by the seven bits it sends. -/

namespace Sys2Proof.Machine

open Sys2Proof.Claims

/-- A step at an IN that waits for the Bridge is that wait and nothing more (R230). -/
theorem step_of_in_waiting {s t : State} {port : Byte} (hwait : bridgeWaits s = true)
    (hexec : exec (.inPort port) s = .next t) (hactive : s.active = true) (hfetch : fetch s = .ok (.inPort port)) :
    step s = .next t := by
  have hwaits : waitsOn (.inPort port) s = true := hwait
  rw [step_of_fetch hactive hfetch hexec, if_pos hwaits]

theorem bridgeWaits_of_later {s : State} {rest : List BridgeReply} (h : s.replies = .later :: rest) :
    bridgeWaits s = true := by
  simp only [bridgeWaits, h]

theorem bridgeWaits_of_never {s : State} {rest : List BridgeReply} (h : s.replies = .never :: rest) :
    bridgeWaits s = true := by
  simp only [bridgeWaits, h]

/-- Settles O48: by the head of the list of answers and waits, and by whether the port is the sense switches'. -/
theorem inReadsBridge : Obligations.InReadsBridge := by
  refine ⟨fun v rest s h => ?_, fun s h => ?_, fun port v rest s hport h => ?_, fun port s hport h => ?_,
    fun port rest s h => ?_, fun port rest s h => ?_, fun port => ⟨rfl, operandsPastEnd_of_wf rfl⟩⟩
  · have hin := input_of_byte 0xFF h
    rwa [State.inputByte_sense] at hin
  · have hin := input_of_nil 0xFF h
    rwa [State.inputByte_sense] at hin
  · have hin := input_of_byte port h
    rwa [State.inputByte_of_ne s v hport] at hin
  · exact ⟨_, input_of_nil port h⟩
  · have hexec : exec (.inPort port) s = _ := input_of_later port h
    exact ⟨hexec, step_of_in_waiting (bridgeWaits_of_later h) hexec⟩
  · have hexec : exec (.inPort port) s = _ := input_of_never port h
    exact ⟨hexec, step_of_in_waiting (bridgeWaits_of_never h) hexec⟩

/-- The low 7 bits of a byte are it modulo 128 (R232). -/
theorem low_seven_bits_toNat (v : Byte) : (v &&& 0x7F).toNat = v.toNat % 128 :=
  (BitVec.toNat_and v 0x7F).trans (Nat.and_two_pow_sub_one_eq_mod v.toNat 7)

/-- Settles O49: the byte sent is A without bit 7. -/
theorem outSendsSevenBits : Obligations.OutSendsSevenBits :=
  fun _ s => ⟨⟨_, rfl, s.a &&& 0x7F, low_seven_bits_toNat s.a, rfl⟩, rfl, operandsPastEnd_of_wf rfl⟩

end Sys2Proof.Machine

/-! The family 60_exceptions.md: boundaries and the host's events, the checks after a Step, and Halted. -/

namespace Sys2Proof.Machine

open Sys2Proof.Claims

/-! A boundary by the head of the queue (R280). -/

theorem State.boundary_of_nil {s : State} (h : s.inbox = []) : s.boundary = s := by
  rw [State.boundary, h, takeEvents, ← h]

theorem State.boundary_of_later {s : State} {n : Nat} {ev : HostEvent} {rest : List (Nat × HostEvent)}
    (h : s.inbox = (n + 1, ev) :: rest) : s.boundary = { s with inbox := (n, ev) :: rest } := by
  rw [State.boundary, h, takeEvents]

/-- A grant ends the taking (R277). -/
theorem State.boundary_of_grant {s : State} {ev : HostEvent} {rest : List (Nat × HostEvent)}
    (h : s.inbox = (0, ev) :: rest) (hgrant : (hostEvent ev s).grant = true) :
    s.boundary = { hostEvent ev s with inbox := rest } := by
  rw [State.boundary, h]
  exact if_pos hgrant

/-- Without a grant the boundary goes on with the events behind. -/
theorem State.boundary_of_no_grant {s : State} {ev : HostEvent} {rest : List (Nat × HostEvent)}
    (h : s.inbox = (0, ev) :: rest) (hgrant : (hostEvent ev s).grant = false) :
    s.boundary = ({ hostEvent ev s with inbox := rest } : State).boundary := by
  rw [State.boundary, h]
  exact (if_neg (Bool.eq_false_iff.mp hgrant)).trans (takeEvents_inbox rest rest _).symm

theorem step_of_inactive {s : State} (h : s.active = false) : step s = .next s.boundary := by
  simp only [step, controllerStep, h]
  rfl

/-! The events of the host that act by RUN (R271, R273, R277). -/

/-- The `step` command grants an instruction in a wait state and nowhere else. -/
theorem grantStep_of_isWait {s : State} (h : s.run.isWait = true) : s.grantStep = { s with grant := true } := by
  cases hrun : s.run with
  | singleStepWait | breakpointHit => simp only [State.grantStep, hrun]
  | idle | running | halted => simp [RunState.isWait, hrun] at h

theorem grantStep_of_not_isWait {s : State} (h : s.run.isWait = false) : s.grantStep = s := by
  cases hrun : s.run with
  | singleStepWait | breakpointHit => simp [RunState.isWait, hrun] at h
  | idle | running | halted => simp only [State.grantStep, hrun]

theorem start_of_idle_or_isWait {s : State} (h : s.run = .idle ∨ s.run.isWait = true) :
    s.start = { s with run := .running } := by
  cases hrun : s.run with
  | idle | singleStepWait | breakpointHit => simp only [State.start, hrun]
  | running | halted => simp [RunState.isWait, hrun] at h

theorem start_of_running_or_halted {s : State} (h : s.run = .running ∨ ∃ r, s.run = .halted r) : s.start = s := by
  rcases h with hrun | ⟨r, hrun⟩ <;> simp only [State.start, hrun]

theorem stop_of_not_halted {s : State} (h : ∀ r, s.run ≠ .halted r) : s.stop = s.halt .requested := by
  cases hrun : s.run with
  | halted r => exact absurd hrun (h r)
  | idle | running | singleStepWait | breakpointHit => simp only [State.stop, hrun]

theorem stop_of_halted {s : State} {r : HaltReason} (h : s.run = .halted r) : s.stop = s := by
  simp only [State.stop, h]

/-- Where the `step` command finds a wait state, the boundary ends at its grant and the core executes (R277). -/
theorem boundary_of_step_command {s : State} {rest : List (Nat × HostEvent)} (hwait : s.run.isWait = true)
    (h : s.inbox = (0, .step) :: rest) : s.boundary = { s with grant := true, inbox := rest } := by
  have hevent : hostEvent .step s = { s with grant := true } := grantStep_of_isWait hwait
  rw [State.boundary_of_grant h (by rw [hevent]), hevent]

/-- Settles O51: a boundary by the head of the queue, `start` and `stop` by RUN. -/
theorem startAndStopSetRun : Obligations.StartAndStopSetRun := by
  refine ⟨fun s ev hinactive _ hinbox => ?_, fun _ => step_of_inactive, fun _ => State.boundary_of_nil,
    fun _ _ _ _ => State.boundary_of_later, fun _ _ _ => State.boundary_of_no_grant,
    fun _ _ _ => State.boundary_of_grant, fun s rest hwait hinbox => ?_, fun _ => start_of_idle_or_isWait,
    fun _ => start_of_running_or_halted, fun _ => stop_of_not_halted, fun _ _ => stop_of_halted⟩
  · rw [step_of_inactive hinactive]
    cases hgrant : (hostEvent ev s).grant with
    | true => rw [State.boundary_of_grant hinbox hgrant]
    | false => rw [State.boundary_of_no_grant hinbox hgrant, State.boundary_of_nil rfl]
  · have hboundary := boundary_of_step_command hwait hinbox
    refine ⟨hboundary, ?_⟩
    rw [hboundary]
    exact State.active_of_isWait hwait

/-! The checks after a Step (R268, R272 to R277). -/

/-- A Step writes neither BP nor the queue. -/
theorem instructionStep_bp_inbox {s t : State} (h : instructionStep s = .next t) : t.bp = s.bp ∧ t.inbox = s.inbox := by
  rcases instructionStep_cases h with ⟨f, _, rfl⟩ | ⟨i, _, hexec⟩
  · exact ⟨rfl, rfl⟩
  · obtain ⟨_, hbp, _, _, _, hinbox, _⟩ := (exec_cases hexec).control
    exact ⟨hbp, hinbox⟩

theorem State.atBreakpoint_iff (t : State) : t.atBreakpoint = true ↔ ∃ x ∈ t.bp, x.toNat = t.pc := by
  simp [State.atBreakpoint]

theorem State.single_iff (s : State) : s.single = true ↔ s.run ≠ .running ∨ s.sstep = true := by
  simp [State.single]

/-- The core executes in Running, and in a wait state under a grant. -/
theorem State.run_of_active {s : State} (h : s.active = true) : s.run = .running ∨ s.run.isWait = true := by
  cases hrun : s.run with
  | running => exact .inl rfl
  | singleStepWait | breakpointHit => exact .inr rfl
  | idle | halted => simp [State.active, hrun] at h

/-- After a Step that did not halt, the checks set RUN by BP, by the single-step check, or not at all. -/
theorem afterStep_of_run_eq {s t : State} (hactive : s.active = true) (hrun : t.run = s.run) (hbp : t.bp = s.bp) :
    t.afterStep s.single = { t with run := runAfter s t, grant := false } := by
  have hbreak := hbp ▸ t.atBreakpoint_iff
  have hhalted : ∀ r, t.run ≠ .halted r := by
    intro r hr
    rcases State.run_of_active hactive with h | h <;> simp [← hrun, hr, RunState.isWait] at h
  unfold State.afterStep
  split
  case h_1 r hr => exact absurd hr (hhalted r)
  case h_2 =>
    simp only [runAfter, hbreak, State.single_iff]
    split
    case isTrue => rfl
    case isFalse =>
      split
      case isTrue => rfl
      case isFalse hsingle =>
        have hrunning : t.run = .running := hrun.trans (not_not.mp fun h => hsingle (.inl h))
        rw [← hrunning]

/-- A Step that does not wait is followed by the checks and a boundary (R272). -/
theorem step_of_not_waiting {s t : State} (hactive : s.active = true) (hwait : s.waiting = false)
    (hinstr : instructionStep s = .next t) : step s = .next (t.afterStep s.single).boundary := by
  rw [step, controllerStep, if_pos hactive, iteration, hinstr, hwait]
  rfl

/-- Settles O52: the checks, and a boundary at which nothing has arrived. -/
theorem breakpointThenSingleStep : Obligations.BreakpointThenSingleStep := by
  intro s t hactive hinbox hwait hinstr hrun
  obtain ⟨hbp, hqueue⟩ := instructionStep_bp_inbox hinstr
  have hempty : (t.afterStep s.single).inbox = [] := by rw [State.afterStep_inbox, hqueue, hinbox]
  rw [step_of_not_waiting hactive hwait hinstr, State.boundary_of_nil hempty, afterStep_of_run_eq hactive hrun hbp]

/-- Settles O53: the command's boundary grants the instruction, the checks after it use the grant up and leave the core
in a wait state, where nothing is executed. -/
theorem advanceRunsOneInstruction : Obligations.AdvanceRunsOneInstruction := by
  refine ⟨fun _ => grantStep_of_isWait, fun _ => grantStep_of_not_isWait,
    fun s t hwait hgrant hinbox hinstr hrun hnowait => ?_⟩
  have hactive : ({ s with grant := true, inbox := [] } : State).active = true := State.active_of_isWait hwait
  have hinactive : s.active = false := (State.active_of_isWait hwait).trans hgrant
  have hrunning : s.run ≠ .running := fun h => by simp [h, RunState.isWait] at hwait
  have hafter : runAfter { s with grant := true, inbox := [] } t =
      if ∃ x ∈ s.bp, x.toNat = t.pc then .breakpointHit (BitVec.ofNat 16 t.pc) else .singleStepWait := by
    simp only [runAfter, if_pos (Or.inl hrunning)]
  refine ⟨_, _, ?_, rfl, breakpointThenSingleStep _ t hactive rfl hnowait hinstr hrun, ?_, ?_⟩
  · rw [step_of_inactive hinactive, boundary_of_step_command hwait hinbox]
  · rw [hafter]
  · rw [step_of_inactive, State.boundary_of_nil]
    · obtain ⟨_, hqueue⟩ := instructionStep_bp_inbox hinstr
      exact hqueue
    · rw [hafter, State.active_of_isWait]
      show RunState.isWait (ite _ _ _) = true
      split <;> rfl

/-! Halted (R266, R281). -/

/-- `t` is `s` but for what the host may still move in Halted: BP, SSTEP, SW and the queue. -/
def State.SameButHost (s t : State) : Prop := t = { s with bp := t.bp, sstep := t.sstep, sw := t.sw, inbox := t.inbox }

theorem hostEvent_of_halted {s t : State} {r : HaltReason} {ev : HostEvent} (hrun : s.run = .halted r)
    (hev : ev ≠ .reset) (h : s.SameButHost t) : s.SameButHost (hostEvent ev t) := by
  have htrun : t.run = .halted r := by rw [h]; exact hrun
  cases ev with
  | start | stop | step | loadRom | applyUsrPatch =>
    simpa only [hostEvent, State.start, State.stop, State.grantStep, State.loadRom, State.applyUsrPatch, htrun] using h
  | reset => exact absurd rfl hev
  | setBreakpoints addrs =>
    show s.SameButHost (t.setBreakpoints addrs)
    unfold State.setBreakpoints
    split
    · rw [State.SameButHost, h]
    · exact h
  | setSstep level | setSwitches value =>
    rw [State.SameButHost, h]
    rfl

/-- Settles O54: a halted core executes nothing, and of its boundary's events none but `reset` leaves Halted. -/
theorem haltedIsTerminal : Obligations.HaltedIsTerminal := by
  intro s t r hrun hreset hstep
  have hinactive : s.active = false := by simp only [State.active, hrun]
  rw [step_of_inactive hinactive] at hstep
  obtain rfl := Host.Outcome.next.inj hstep
  refine takeEvents_keeps_of_mem (P := s.SameButHost) (fun u q h => ?_) s.inbox
    (fun x hx u h => hostEvent_of_halted hrun (hreset x hx) h) s rfl
  rw [State.SameButHost, h]

/-! `set_breakpoints` and `load_rom` (R279, R282). -/

/-- An address in range is the word that stands for it in BP. -/
theorem toNat_ofInt_of_lt {x : Int} (h : 0 ≤ x ∧ x < 65536) : ((BitVec.ofInt 16 x).toNat : Int) = x := by
  rw [BitVec.toNat_ofInt]
  omega

/-- The set of some addresses in range holds exactly the words that are among them. -/
theorem mem_addrSet_iff {addrs : List Int} (hrange : ∀ x ∈ addrs, 0 ≤ x ∧ x < 65536) (w : Word) :
    w ∈ addrSet addrs ↔ (w.toNat : Int) ∈ addrs := by
  rw [(addrSet_spec addrs).2 w]
  constructor
  · rintro ⟨x, hx, rfl⟩
    rwa [toNat_ofInt_of_lt (hrange x hx)]
  · intro hw
    exact ⟨_, hw, BitVec.eq_of_toNat_eq (by simp)⟩

/-- The set of some addresses in range has as many members as there are distinct addresses. -/
theorem addrSet_length {addrs : List Int} (hrange : ∀ x ∈ addrs, 0 ≤ x ∧ x < 65536) :
    (addrSet addrs).length = addrs.dedup.length := by
  have hinj : Function.Injective (fun w : Word => (w.toNat : Int)) :=
    fun v w h => BitVec.eq_of_toNat_eq (Int.ofNat.inj h)
  have hnodup : (addrSet addrs).Nodup :=
    (addrSet_spec addrs).1.imp fun hlt heq => absurd (congrArg BitVec.toNat heq) (Nat.ne_of_lt hlt)
  have hperm : ((addrSet addrs).map (fun w => (w.toNat : Int))).Perm addrs.dedup := by
    refine (List.perm_ext_iff_of_nodup (hnodup.map hinj) addrs.nodup_dedup).mpr fun x => ?_
    simp only [List.mem_map, List.mem_dedup, mem_addrSet_iff hrange]
    constructor
    · rintro ⟨w, hw, rfl⟩
      exact hw
    · intro hx
      exact ⟨BitVec.ofInt 16 x, by rwa [toNat_ofInt_of_lt (hrange x hx)], toNat_ofInt_of_lt (hrange x hx)⟩
  rw [← hperm.length_eq, List.length_map]

theorem bpRequestOk_iff (addrs : List Int) :
    bpRequestOk addrs = true ↔ (∀ x ∈ addrs, 0 ≤ x ∧ x < 65536) ∧ addrs.dedup.length ≤ 5 := by
  have hall : bpRequestOk addrs = true ↔ (∀ x ∈ addrs, 0 ≤ x ∧ x < 65536) ∧ (addrSet addrs).length ≤ 5 := by
    simp only [bpRequestOk, Bool.and_eq_true, List.all_eq_true, decide_eq_true_eq]
    rfl
  rw [hall]
  exact and_congr_right fun hrange => by rw [addrSet_length hrange]

/-- Settles O56: the request is checked as the statement says it, and the set of the addresses replaces BP. -/
theorem setBreakpointsReplaces : Obligations.SetBreakpointsReplaces := by
  intro addrs s
  refine ⟨fun hrange hcount => ?_, fun hbad => if_neg (mt (bpRequestOk_iff addrs).mp hbad)⟩
  have hevent : hostEvent (.setBreakpoints addrs) s = { s with bp := addrSet addrs } :=
    if_pos ((bpRequestOk_iff addrs).mpr ⟨hrange, hcount⟩)
  rw [hevent]
  exact ⟨rfl, mem_addrSet_iff hrange⟩

theorem loadRom_of_idle {s : State} (bytes : List Byte) (hidle : s.run = .idle) :
    s.loadRom bytes =
      if bytes.length ≤ memSize then { s with mem := s.mem.load 0 bytes } else s.halt (.romTooLarge bytes.length) := by
  simp only [State.loadRom, hidle]

theorem loadRom_of_not_idle {s : State} (bytes : List Byte) (h : s.run ≠ .idle) : s.loadRom bytes = s := by
  cases hrun : s.run with
  | idle => exact absurd hrun h
  | running | halted | singleStepWait | breakpointHit => simp only [State.loadRom, hrun]

/-- Settles O57: what a byte reads as after the image was stored from address 0 upward. -/
theorem loadRomCopiesImage : Obligations.LoadRomCopiesImage := by
  intro bytes s
  refine ⟨fun hidle hlen => ?_, fun hidle hlen => ?_, loadRom_of_not_idle bytes⟩
  · have hevent : hostEvent (.loadRom bytes) s = { s with mem := s.mem.load 0 bytes } :=
      (loadRom_of_idle bytes hidle).trans (if_pos hlen)
    rw [hevent]
    refine ⟨rfl, fun k hk => ?_, fun k hk => ?_⟩
    · rw [Memory.read_load, if_pos (by omega), Nat.sub_zero, List.getD_eq_getElem _ _ hk]
    · rw [Memory.read_load, if_neg (by omega)]
  · exact (loadRom_of_idle bytes hidle).trans (if_neg (Nat.not_le.mpr hlen))

end Sys2Proof.Machine

/-! The family 70_reset_and_hazards.md: `reset` and the state after construction. -/

namespace Sys2Proof.Machine

/-- Settles O55: every field by `reset`'s own list, and an empty memory reads as 0. -/
theorem resetRestoresInitialState : Obligations.ResetRestoresInitialState := fun _ => ⟨rfl, fun _ => rfl⟩

/-- The state after construction has the invariant. -/
theorem reset_inv : State.reset.Inv where
  mem_wf := Memory.wf_nil
  pc_le := Nat.zero_le _
  reserved := rfl
  bp_wf := ⟨List.Pairwise.nil, Nat.zero_le _⟩
  grant_waits := nofun

/-- Settles O59: the invariant, and each piece of state by its value. -/
theorem constructionState : Obligations.ConstructionState :=
  ⟨reset_inv, fun r => by cases r <;> rfl, rfl, rfl, rfl, rfl, rfl, rfl, fun _ => rfl, rfl, rfl⟩

end Sys2Proof.Machine
